-- ==== Sys2Proof/Word.lean ====
section
/-! DEFINITION. The word types of the PZ2410 and the small finite index types its chapters use.
R174: every word of the register window is 16 bits. R9: an identity is 32 bits. R28: a device address and a register
address on a management bus are 0 to 31. -/
namespace Sys2Proof

/-- A 16-bit word: a register of the window, a PHY register word, a stamp (R174, R28, R177). -/
abbrev Word := BitVec 16

/-- A 32-bit identity of a PHY (R9). -/
abbrev Identity := BitVec 32

/-- A device address or a register address on a management bus, 0 to 31 (R28, R106). -/
abbrev BusAddr := BitVec 5

/-- A port number, 0 to 23 (R1). -/
abbrev PortId := Fin 24

/-- An indicator number, 0 to 47 (R156). -/
abbrev IndicatorId := Fin 48

end Sys2Proof
end

