-- ==== Sys2Proof/Syntax.lean ====
section
/-! DEFINITION. The commands of the PZ2410: one constructor for each row of spec/opcode_table.json.
The part is a block, not a processor: a command is a write of a register of its window, a command code written to the
command register, an expiry of one of its timers, an event on a management bus, or an event on a pin.
Assumption 1: a command code finds its arguments in the argument words, which are state (R183, R189), so the rows of
the command set carry only what the write of the command register itself carries: bits 15 to 8 of the word. -/
namespace Sys2Proof

/-- A management channel, CH0 or CH1. -/
inductive Chan where
  | ch0
  | ch1
deriving DecidableEq, Repr

/-- One row of the table of operations and events. -/
inductive Instr where
  /-- R188: code 0. `hi` is bits 15 to 8 of the word written, which R183 ignores and the register reads back. -/
  | nop (hi : BitVec 8)
  /-- R48: code 1. -/
  | bind (hi : BitVec 8)
  /-- R49: code 2. -/
  | unbind (hi : BitVec 8)
  /-- R50: code 3. -/
  | suspend (hi : BitVec 8)
  /-- R51: code 4. -/
  | resume (hi : BitVec 8)
  /-- R52: code 5. -/
  | retry (hi : BitVec 8)
  /-- R22: code 6. -/
  | ack (hi : BitVec 8)
  /-- R24: code 7. -/
  | snapshot (hi : BitVec 8)
  /-- R70: code 8. -/
  | setScanEntry (hi : BitVec 8)
  /-- R71: code 9. -/
  | setScanLength (hi : BitVec 8)
  /-- R41: code 10. -/
  | profileLoad (hi : BitVec 8)
  /-- R125: code 11 with kind RAW_READ in argument word 4. -/
  | postRawRead (hi : BitVec 8)
  /-- R125: code 11 with kind RAW_WRITE in argument word 4. -/
  | postRawWrite (hi : BitVec 8)
  /-- R125: code 11 with kind ITEM_READ in argument word 4. -/
  | postItemRead (hi : BitVec 8)
  /-- R134: code 12. -/
  | takeCompletion (hi : BitVec 8)
  /-- R146: code 13. -/
  | popEvent (hi : BitVec 8)
  /-- R167: code 14. -/
  | override (hi : BitVec 8)
  /-- R168: code 15. -/
  | cancelOverride (hi : BitVec 8)
  /-- R163: code 16 with mode DEFERRED in argument word 5. -/
  | setRateDeferred (hi : BitVec 8)
  /-- R164: code 16 with mode IMMEDIATE in argument word 5. -/
  | setRateImmediate (hi : BitVec 8)
  /-- R115: code 17 with bit 11 of argument word 5 set. -/
  | channelEnableOn (hi : BitVec 8)
  /-- R115: code 17 with bit 11 of argument word 5 clear. -/
  | channelEnableOff (hi : BitVec 8)
  /-- R117: code 18. -/
  | channelAbort (hi : BitVec 8)
  /-- R119: code 19. `mdioHigh` is the level of the named channel's MDIO line when the command is taken. -/
  | channelRestart (hi : BitVec 8) (mdioHigh : Bool)
  /-- R190: code 20. -/
  | softReset (hi : BitVec 8)
  /-- R183: a code above 20. -/
  | unknownCommand (hi : BitVec 8) (code : BitVec 8)
  /-- R153: write of 08H. -/
  | writeInterruptCauses (v : Word)
  /-- R154: write of 09H. -/
  | writeInterruptEnables (v : Word)
  /-- R151: write of 0AH. -/
  | writeEventThreshold (v : Word)
  /-- R151: write of 0BH. -/
  | writeHoldoff (v : Word)
  /-- R66: write of 18H. -/
  | writeMissLimit (v : Word)
  /-- R66: write of 19H. -/
  | writeProbeAttemptLimit (v : Word)
  /-- R67: write of 1AH. -/
  | writeProbeRetryInterval (v : Word)
  /-- R67: write of 1BH. -/
  | writeLostCheckInterval (v : Word)
  /-- R181: write of 40H. -/
  | writeStagingIndex (v : Word)
  /-- R181: write of 41H + `word`. -/
  | writeStagingPart (word : Fin 4) (v : Word)
  /-- R178: write of 48H + 2 × `line`. -/
  | writeAttentionLow (line : Fin 4) (v : Word)
  /-- R79: write of 49H + 2 × `line`. -/
  | writeAttentionHigh (line : Fin 4) (v : Word)
  /-- R108: write of channel word +0. -/
  | writeDivider (ch : Chan) (v : Word)
  /-- R72: write of channel word +1. -/
  | writePassInterval (ch : Chan) (v : Word)
  /-- R102: write of channel word +2. -/
  | writeHostWeight (ch : Chan) (v : Word)
  /-- R76: write of channel word +3. -/
  | writeChannelStatus (ch : Chan) (v : Word)
  /-- R158: write of 60H. -/
  | writeIndicatorIndex (v : Word)
  /-- R158: write of 61H + `word`. -/
  | writeIndicatorRecord (word : Fin 3) (v : Word)
  /-- R170: write of 66H. -/
  | writeChainLength (v : Word)
  /-- R166: write of 67H. -/
  | writeFlashWidth (v : Word)
  /-- R175: write of a register with no row of its own: an argument word, a read-only register or an undefined
  address. -/
  | registerWrite (addr : BitVec 7) (v : Word)
  /-- R176: RSTN falls (or power-on begins). -/
  | resetAssert
  /-- R176: RSTN rises (or power-on ends). -/
  | resetRelease
  /-- R177: a 1 ms tick. Bit n of `atn` is the level of pin ATNn at the tick; the lines are active low (R80). -/
  | timebaseTick (atn : BitVec 4)
  /-- R169: the refresh of the indicator chain. -/
  | indicatorRefresh
  /-- R58: expiry of a port's probe-retry timer. -/
  | probeRetryExpiry (port : PortId)
  /-- R62: expiry of a port's lost-check timer. -/
  | lostCheckExpiry (port : PortId)
  /-- R72: expiry of a channel's pass-interval timer. -/
  | passIntervalExpiry (ch : Chan)
  /-- R150: expiry of the holdoff timer. -/
  | holdoffExpiry
  /-- R162: expiry of a rate slot's phase timer. -/
  | ratePhaseExpiry (slot : Fin 4)
  /-- R165: expiry of a flash machine's pulse or gap. -/
  | flashPhaseExpiry (port : PortId)
  /-- R168: expiry of an override's timer. -/
  | overrideExpiry (indicator : IndicatorId)
  /-- R109: the end of the gap before a frame, with the level of MDIO sampled there. -/
  | idleLineCheck (ch : Chan) (mdioHigh : Bool)
  /-- R112: the last bit of a frame, with the second turnaround bit and the 16 data bits as the part sampled them
  (both without meaning for a write frame). -/
  | frameEnd (ch : Chan) (turnaround : Bool) (data : Word)
deriving DecidableEq, Repr

end Sys2Proof
end

