-- ==== Sys2Proof/Config.lean ====
section
/-! DEFINITION. The constants of the part (R174 to R178, R108, R169, R171). The manual leaves no value open to an
implementation, so this file holds no free value. -/
namespace Sys2Proof.Config

/-- R178: register 00H. -/
def partCode : Word := 0x2410#16
/-- R178: register 01H. -/
def revision : Word := 0x0001#16
/-- R177: REFCLK cycles in one tick of the Timebase. -/
def refclkPerTick : Nat := 32000
/-- R174: the highest SCLK rate, in Hz. -/
def maxSclkHz : Nat := 20000000
/-- R176: the shortest low level of RSTN taken as a reset, in µs. -/
def minResetMicros : Nat := 1
/-- R109: the least gap before a frame, in bit times. -/
def gapBitTimes : Nat := 2
/-- R171: the rate of LSCK, in Hz. -/
def lsckHz : Nat := 1000000
/-- R169: ticks from one refresh to the next. -/
def refreshTicks : Nat := 5
/-- R141: the capacity of the event queue. -/
def eventCapacity : Nat := 64
/-- R123: the units one host queue holds. -/
def hostQueueCapacity : Nat := 8
/-- R126: the greatest outstanding count. -/
def maxOutstanding : Nat := 16

end Sys2Proof.Config
end

