-- ==== Sys2Proof/Machine/State.lean ====
section
/-! DEFINITION. The state of the PZ2410 as plain data, its outcomes that are no next state, and its reset.
Each structure below is the state one block of the part owns; the docstring of a field names the rule that gives it. -/
namespace Sys2Proof.Machine

/-! ### Status items and their values (R3, R4) -/

/-- R3: the eight status items, in item order. -/
inductive Item where
  | link | neg | speed | duplex | rfault | partner | energy | count
deriving DecidableEq, Repr

/-- One value for each of the eight items. -/
structure PerItem (α : Type) where
  link : α
  neg : α
  speed : α
  duplex : α
  rfault : α
  partner : α
  energy : α
  count : α
deriving DecidableEq, Repr

/-- The same value for every item. -/
def PerItem.const {α : Type} (a : α) : PerItem α := ⟨a, a, a, a, a, a, a, a⟩

/-- R31: the speed codes. -/
inductive SpeedCode where
  | s10 | s100 | s1000 | s2500
deriving DecidableEq, Repr

/-- Figure 1-2: a value of an item. `flag true` is the asserted value of a one-bit item (up, true, FULL). -/
inductive ItemValue where
  | flag (asserted : Bool)
  | speed (code : SpeedCode)
  | word (w : Word)
deriving DecidableEq, Repr

/-- R45: the lifecycle states of a port. -/
inductive PortState where
  | unbound | probing | active | lost | suspended | failed
deriving DecidableEq, Repr

/-- R46: why a port entered its present state. -/
inductive Reason where
  | host | resumed | retry | noAnswer | identity | setup | misses | remoteReset | present
deriving DecidableEq, Repr

/-- §1.4: the cause of an observation. -/
inductive Cause where
  | scan | probe | host
deriving DecidableEq, Repr

/-! ### Access profiles (R27 to R35) -/

/-- R30: which field value of a one-bit item gives the asserted value. -/
inductive Polarity where
  | normal | inverted
deriving DecidableEq, Repr

/-- R30: how a PHY register holds an item. -/
inductive LatchKind where
  | plain | latchLow | latchHigh | clearOnRead
deriving DecidableEq, Repr

/-- R28: the access methods. -/
inductive Method where
  | direct | paged | indirect
deriving DecidableEq, Repr

/-- R28: a fetch location. Equality of locations (R29) is equality of these terms. -/
inductive Location where
  | direct (reg : BusAddr)
  | paged (pageReg : BusAddr) (page : Word) (reg : BusAddr) (restore : Option Word)
  | indirect (addrReg : BusAddr) (addr : Word) (dataReg : BusAddr)
deriving DecidableEq, Repr

/-- R30: an item recipe. -/
structure Recipe where
  loc : Location
  low : Nat
  width : Nat
  polarity : Polarity
  latch : LatchKind
  confirm : Bool
deriving DecidableEq, Repr

/-- R31: the speed map. -/
structure SpeedMap where
  e0 : SpeedCode
  e1 : SpeedCode
  e2 : SpeedCode
  e3 : SpeedCode
deriving DecidableEq, Repr

/-- R33, R34: a location and the word written to it (a setup step, or the marker). -/
structure WriteStep where
  loc : Location
  value : Word
deriving DecidableEq, Repr

/-- R38: an entry of the fetch plan. -/
structure PlanEntry where
  loc : Location
  items : List Item
  confirmCapable : Bool
deriving DecidableEq, Repr

/-- R27, Figure 2-1: an installed profile with the fetch plan derived from it (R38). -/
structure Profile where
  recipes : PerItem (Option Recipe)
  speedMap : SpeedMap
  /-- R32: the high-word and the low-word register. -/
  identity : Option (BusAddr × BusAddr)
  setup : List WriteStep
  marker : Option WriteStep
  preamble : Bool
  plan : List PlanEntry
deriving DecidableEq, Repr

/-- R40: a location as the staging record holds it, whatever its consistency. -/
structure StagedLoc where
  method : Method
  restorePresent : Bool
  /-- The DIRECT register, the PAGED register or the INDIRECT data register. -/
  reg : BusAddr
  /-- The PAGED page register or the INDIRECT address register. -/
  second : BusAddr
  /-- The page value or the address value. -/
  value : Word
  restore : Word
deriving DecidableEq, Repr

/-- R40: a staged item recipe. -/
structure StagedRecipe where
  loc : StagedLoc
  present : Bool
  low : BitVec 4
  width : Nat
  polarity : Polarity
  latch : LatchKind
  confirm : Bool
deriving DecidableEq, Repr

/-- R40: a staged setup step, or the staged marker. -/
structure StagedStep where
  loc : StagedLoc
  value : Word
deriving DecidableEq, Repr

/-- R40: one register of the staged identity recipe. -/
structure StagedIdent where
  method : Method
  reg : BusAddr
deriving DecidableEq, Repr

/-- R40: the staging record. -/
structure Staging where
  recipes : PerItem StagedRecipe
  steps : Vector StagedStep 8
  marker : StagedStep
  markerPresent : Bool
  identPresent : Bool
  identHigh : StagedIdent
  identLow : StagedIdent
  speedMap : SpeedMap
  preamble : Bool
  setupLength : Nat
deriving DecidableEq, Repr

/-- The Profile Store: the eight profiles (`none` is empty, R27), the staging record (R40) and the staging index
(R181). The installed set of R27 is the set of profiles that are not `none`. -/
structure ProfileStore where
  profiles : Vector (Option Profile) 8
  staging : Staging
  stagingIndex : Nat
deriving DecidableEq, Repr

/-! ### Port records (R1, R2) -/

/-- R2: the binding of a port. -/
structure Binding where
  channel : Chan
  device : BusAddr
  profile : Fin 8
  expected : Option Identity
  ignoreRevision : Bool
deriving DecidableEq, Repr

/-- R1, Figure 1-1: a port record, with the port's two timers (R58, R62; `some n`: running, with n ticks to go, 0 when
the expiry is due). `bindings` is the model's own: it counts the port's BINDs, so that each binding is distinct from
every earlier one (R124). -/
structure PortRec where
  state : PortState
  reason : Option Reason
  binding : Option Binding
  missCount : Nat
  attemptCount : Nat
  mirror : PerItem (Option ItemValue)
  changed : PerItem Bool
  stickyDown : Bool
  stickyFault : Bool
  accumulator : BitVec 32
  saturated : Bool
  lastIdentity : Option Identity
  lastGood : Option Word
  resync : Bool
  probeRetry : Option Nat
  lostCheck : Option Nat
  bindings : Nat
deriving DecidableEq, Repr

/-- R24: the port view as SNAPSHOT filled it. -/
structure PortView where
  port : PortId
  stamp : Word
  record : PortRec
deriving DecidableEq, Repr

/-- The Port Table: the 24 records (R1), the limits (R66), the intervals (R67) and the port view (R24; `none`: view
valid clear). -/
structure PortTable where
  ports : Vector PortRec 24
  missLimit : Nat
  attemptLimit : Nat
  retryInterval : Nat
  lostInterval : Nat
  view : Option PortView
deriving DecidableEq, Repr

/-! ### Frames and units (R106, R36, R93, R124) -/

/-- R106: what a frame does. -/
inductive FrameOp where
  | read
  | write (w : Word)
deriving DecidableEq, Repr

/-- R106: a management frame. -/
structure Frame where
  device : BusAddr
  reg : BusAddr
  op : FrameOp
deriving DecidableEq, Repr

/-- R104: the frame in flight. `rate` is `none` while the frame waits out its gap, and the divider the frame started
with once it has started on the lines (R108, R109). -/
structure FlyingFrame where
  frame : Frame
  preamble : Bool
  rate : Option Nat
deriving DecidableEq, Repr

/-- R111: the result of a frame. -/
inductive FrameResult where
  | answered (w : Word)
  | noAnswer
  | written
deriving DecidableEq, Repr

/-- R36, R37: where an access to a location stands: which of its frames is the next or the one in flight. `main` is
the first read, or the write of the value. -/
inductive Phase where
  | select | main | reselect | confirm | restore
deriving DecidableEq, Repr

/-- R36, R37: an access to a location in progress: a read (`data` is `none`) or a write of `data`. -/
structure Access where
  loc : Location
  data : Option Word
  phase : Phase
  first : Option Word
  second : Option Word
  /-- A read of the access got no answer. -/
  failed : Bool
deriving DecidableEq, Repr

/-- R64: the kinds of piece a job is made of. -/
inductive PieceKind where
  | identHigh | identLow | setup | markerWrite | markerRead | fetch | presence
deriving DecidableEq, Repr

/-- R64: a piece of a job. -/
structure Piece where
  kind : PieceKind
  loc : Location
  data : Option Word
deriving DecidableEq, Repr

/-- R93: the kinds of device-side unit. -/
inductive DeviceKind where
  | probe | presence | urgent | regular
deriving DecidableEq, Repr

/-- R84: a job, with the reading of binding and profile it took at its grant (R39). -/
structure Job where
  kind : DeviceKind
  port : PortId
  binding : Binding
  profile : Profile
  current : PieceKind
  access : Access
  todo : List Piece
  identHigh : Option Word
  stale : Bool
deriving DecidableEq, Repr

/-- R124: what a host transaction asks for. `binding` of an ITEM_READ names the binding in force at the POST, by the
port's count of bindings. -/
inductive HostOp where
  | rawRead (device reg : BusAddr)
  | rawWrite (device reg : BusAddr) (data : Word)
  | itemRead (port : PortId) (item : Item) (binding : Nat)
deriving DecidableEq, Repr

/-- R124: a host transaction. -/
structure HostTxn where
  channel : Chan
  tag : BitVec 8
  op : HostOp
deriving DecidableEq, Repr

/-- R132: the results of a host transaction. -/
inductive HostResult where
  | ok | noAnswer | busFault | aborted | portGone | badState
deriving DecidableEq, Repr

/-- R132: a completion record. -/
structure Completion where
  txn : HostTxn
  result : HostResult
  data : Option Word
deriving DecidableEq, Repr

/-- R129, R130: the member of a host unit whose frames are running. `profile` is the reading of an ITEM_READ. -/
structure HostMember where
  txn : HostTxn
  device : BusAddr
  profile : Option Profile
  access : Access
  stale : Bool
deriving DecidableEq, Repr

/-- R123: the in-flight host unit: the results of the members that have ended, the member at its turn, and the members
to come. -/
structure HostRun where
  done : List Completion
  current : HostMember
  todo : List HostTxn
deriving DecidableEq, Repr

/-- R94: the unit that holds a channel. The current grant of R92 is the kind (and port) of this unit. -/
inductive HeldUnit where
  | job (j : Job)
  | host (r : HostRun)
deriving DecidableEq, Repr

/-! ### One management channel: scheduler, arbiter, bus channel and host queue -/

/-- R82: what a member of the probe queue is due for. -/
inductive ProbeKind where
  | probe | presence
deriving DecidableEq, Repr

/-- R73: an open pass: the pass list (its length is the pass length) and the walk position. -/
structure Pass where
  list : List PortId
  position : Nat
deriving DecidableEq, Repr

/-- R72: the pass-interval timer. -/
inductive PassTimer where
  | stopped
  | running (remaining : Nat)
  | expired
deriving DecidableEq, Repr

/-- R69, Figure 4-1: the state of a Scan Scheduler (the attention levels, alike in both, stand in `Attention`). -/
structure Scheduler where
  scanList : Vector PortId 32
  scanLength : Nat
  pass : Option Pass
  pendingExpiry : Bool
  passInterval : Nat
  passTimer : PassTimer
  overrun : Bool
  urgent : List PortId
  probes : List (PortId × ProbeKind)
deriving DecidableEq, Repr

/-- R105: the channel states. -/
inductive ChanState where
  | off | idle | busy | draining | halted
deriving DecidableEq, Repr

/-- R104: the drain kinds. -/
inductive Drain where
  | none | abort | disable
deriving DecidableEq, Repr

/-- One management channel: its Scan Scheduler (R69), its Channel Arbiter (R92: host weight, host-turn counter, held
unit), its Bus Channel (R104) and its side of the Host Transaction Unit (R123: host queue and open chain). -/
structure Channel where
  sched : Scheduler
  hostWeight : Nat
  hostTurn : Nat
  held : Option HeldUnit
  state : ChanState
  enabled : Bool
  divider : Nat
  /-- R114: bit a is set while device address a is in the preamble-established set. -/
  established : BitVec 32
  frame : Option FlyingFrame
  drain : Drain
  /-- R128: host units in posting order; each is the list of its transactions. -/
  hostQueue : List (List HostTxn)
  /-- R127: the unit at the tail is an open chain. -/
  chainOpen : Bool
  /-- The level of MDIOn as the last idle-line check, restart or written word of the SPI port gave it: a pin, the model's
  own record of it (assumption 10). -/
  mdioHigh : Bool
deriving DecidableEq, Repr

/-- R79, R80, R178: the attention lines, common to both schedulers: the levels at the previous tick (bit n set: ATNn
active), the port set of each line (bit p: port p), and the attention holding word. -/
structure Attention where
  levels : BitVec 4
  sets : Vector (BitVec 24) 4
  holding : Word
deriving DecidableEq, Repr

/-- R123: the parts of the Host Transaction Unit that serve both channels. -/
structure HostTable where
  completions : List Completion
  outstanding : Nat
  view : Option Completion
deriving DecidableEq, Repr

/-! ### Event queue and notification (R139, R140) -/

/-- R140: what an event record reports. -/
inductive EventBody where
  | itemChange (port : PortId) (item : Item) (old new : Option ItemValue) (cause : Cause)
  | stateChange (port : PortId) (old new : PortState) (reason : Option Reason)
  | channelFault (channel : Chan)
deriving DecidableEq, Repr

/-- R140: the key of an event. -/
inductive EventKey where
  | item (port : PortId) (item : Item)
  | state (port : PortId)
  | channel (channel : Chan)
deriving DecidableEq, Repr

/-- R140: an event record. -/
structure EventRec where
  body : EventBody
  repeats : Nat
  firstStamp : Word
  lastStamp : Word
deriving DecidableEq, Repr

/-- R146, Figure 8-3: the event view as POP_EVENT filled it. -/
structure EventView where
  record : EventRec
  remaining : Nat
  overflow : Bool
deriving DecidableEq, Repr

/-- R150: the holdoff timer. -/
inductive HoldoffTimer where
  | stopped
  | running (remaining : Nat)
  | expired
deriving DecidableEq, Repr

/-- R154: one enable for each cause. -/
structure Enables where
  evq : Bool
  cmpl : Bool
  ovf : Bool
  chf : Bool
deriving DecidableEq, Repr

/-- R139, Figure 8-1: the Event Queue and Notification block. The level causes EVQ and CMPL and the pin IRQN follow
from this and from the completion queue (Flags.lean). -/
structure EventBlock where
  queue : List EventRec
  overflow : Bool
  threshold : Nat
  holdoff : Nat
  timer : HoldoffTimer
  ovf : Bool
  chf : Bool
  enables : Enables
  view : Option EventView
deriving DecidableEq, Repr

/-! ### Indicator engine (R156, R157) -/

/-- R157: the conditions; what SPEED_IS, PORT_STATE_IN and CHANNEL_HALTED read stands in the record's own fields. -/
inductive Condition where
  | none | always | linkUp | linkStickyDown | speedIs | fullDuplex | negPending | rfaultSticky | energy
  | portStateIn | channelHalted | eventsPending
deriving DecidableEq, Repr

/-- R161: the six patterns. -/
inductive PatternKind where
  | off | on | blinkA | blinkB | flash | onFlashOff
deriving DecidableEq, Repr

/-- A pattern with its rate slot. The slot is kept under every pattern (assumption 13). -/
structure Pattern where
  kind : PatternKind
  slot : Fin 4
deriving DecidableEq, Repr

/-- R157: a set of the five bound states. -/
structure StateSet where
  probing : Bool
  active : Bool
  lost : Bool
  suspended : Bool
  failed : Bool
deriving DecidableEq, Repr

/-- R157, R167: an override; `timer` is `none` when it is indefinite, else the ticks to go (0: expiry due). -/
structure Override where
  pattern : Pattern
  timer : Option Nat
deriving DecidableEq, Repr

/-- R157, Figure 9-2: an indicator record. -/
structure IndicatorRec where
  condition : Condition
  speed : SpeedCode
  states : StateSet
  channel : Chan
  port : PortId
  whenTrue : Pattern
  whenFalse : Pattern
  activeHigh : Bool
  override : Option Override
deriving DecidableEq, Repr

/-- R162: a rate slot: half-periods in 10 ms steps, the phase, and the ticks to the next toggle. -/
structure RateSlot where
  half : Nat
  pending : Option Nat
  phaseOn : Bool
  timer : Nat
deriving DecidableEq, Repr

/-- R165: the phases of a flash machine. -/
inductive FlashPhase where
  | idle | pulse | gap
deriving DecidableEq, Repr

/-- R165: the flash machine of a port. -/
structure FlashMachine where
  phase : FlashPhase
  timer : Nat
  pending : Bool
deriving DecidableEq, Repr

/-- R156, Figure 9-1: the Indicator Engine. `refreshDue` is the model's own: the fifth tick has come and the refresh
of R169 has not yet been taken. `shifted` is the pin record of the chain: the levels the last refresh fixed, indicator 0
first (R169, R171). -/
structure IndicatorEngine where
  records : Vector IndicatorRec 48
  slots : Vector RateSlot 4
  /-- R166: in 10 ms steps. -/
  flashWidth : Nat
  flash : Vector FlashMachine 24
  chainLength : Nat
  refreshCount : Nat
  refreshDue : Bool
  /-- R158: the indicator group's index. -/
  index : IndicatorId
  shifted : List Bool
deriving DecidableEq, Repr

/-! ### Command unit (R182, R187) -/

/-- R187, Figure 10-8: the results. -/
inductive ResultCode where
  | none | done | inProgress | busy | badArg | badState | conflict | inUse | full | empty | fault
deriving DecidableEq, Repr

/-- R187: the result register and the result detail register. -/
structure ResultReg where
  code : ResultCode
  sub : BitVec 8
  source : BitVec 8
  item : Option Item
deriving DecidableEq, Repr

/-- R182, R184: a timed command in progress, and the channels whose drains it awaits. -/
structure Timed where
  code : BitVec 8
  wait0 : Bool
  wait1 : Bool
deriving DecidableEq, Repr

/-- R182: the Command Unit. `lastTimed` is the code and result of the last timed command completed (R179). -/
structure CommandUnit where
  command : Word
  args : Vector Word 6
  result : ResultReg
  timed : Option Timed
  lastTimed : Option (BitVec 8 × ResultCode)
deriving DecidableEq, Repr

/-! ### SPI target port (R174) -/

/-- R174, R192: where the SPI target port stands in a transaction. -/
inductive SpiPort where
  /-- No transaction is taken: SSN is high, or it fell before RSTN rose (R176). -/
  | idle
  /-- The command byte: its bits sampled so far, first bit first. -/
  | command (bits : List Bool)
  /-- A write: the address of the word in progress and its bits sampled so far, first bit first. -/
  | writing (addr : BitVec 7) (bits : List Bool)
  /-- A read: the address of the word that comes after the one in progress, the level on SDO, and the bits of the word in
  progress still to be driven. -/
  | reading (next : BitVec 7) (sdo : Bool) (left : List Bool)
deriving DecidableEq, Repr

/-! ### The whole part -/

/-- The state of the PZ2410, and the queue of commands that wait to be given to it. -/
structure State where
  /-- R176: the pin RSTN is low, and the part is held in reset. -/
  rstnLow : Bool
  pt : PortTable
  ps : ProfileStore
  ch0 : Channel
  ch1 : Channel
  att : Attention
  ht : HostTable
  ev : EventBlock
  ie : IndicatorEngine
  cu : CommandUnit
  /-- R174, R192: the SPI target port. No row of the table takes an edge of its pins; Spi.lean says what each edge does
  (assumption 11). -/
  spi : SpiPort
  /-- R177: the Timebase's stamp. -/
  stamp : Word
  /-- The commands that wait, first in, first out. -/
  pending : List Instr
deriving DecidableEq, Repr

/-! ### Outcomes that are no next state -/

/-- Why the part stops with a fault. -/
inductive Fault where
  /-- Raised by nobody: the manual gives the part no command or event that stops it, and no meaning of this model
  answers a fault. The constructor only makes the type inhabited. Safe. -/
  | neverRaised
deriving DecidableEq, Repr

/-- Why the model refuses an instruction. -/
inductive Refusal where
  /-- Raised by an arm of `exec` for a row that has no meaning yet; no arm of this model does. Safe: nothing can be
  proved of what the row does. -/
  | notModelled (mnemonic : String)
deriving DecidableEq, Repr

/-! ### Reset values (R26, R44, R68, R91, R103, R122, R138, R155, R172, R192) -/

/-- R26: a record after power-on / RSTN. -/
def PortRec.reset : PortRec :=
  { state := .unbound, reason := none, binding := none, missCount := 0, attemptCount := 0
    mirror := .const none, changed := .const false, stickyDown := false, stickyFault := false
    accumulator := 0, saturated := false, lastIdentity := none, lastGood := none, resync := false
    probeRetry := none, lostCheck := none, bindings := 0 }

/-- R26, R68: the Port Table after power-on / RSTN. -/
def PortTable.reset : PortTable :=
  { ports := Vector.replicate 24 PortRec.reset, missLimit := 3, attemptLimit := 4
    retryInterval := 50, lostInterval := 1000, view := none }

/-- R40: a staged location of zeros. -/
def StagedLoc.zero : StagedLoc :=
  { method := .direct, restorePresent := false, reg := 0, second := 0, value := 0, restore := 0 }

/-- R40: a staged recipe of zeros. -/
def StagedRecipe.zero : StagedRecipe :=
  { loc := .zero, present := false, low := 0, width := 0, polarity := .normal, latch := .plain, confirm := false }

/-- R40: the zero staging record. -/
def Staging.zero : Staging :=
  { recipes := .const .zero, steps := Vector.replicate 8 ⟨.zero, 0⟩, marker := ⟨.zero, 0⟩, markerPresent := false
    identPresent := false, identHigh := ⟨.direct, 0⟩, identLow := ⟨.direct, 0⟩
    speedMap := ⟨.s10, .s10, .s10, .s10⟩, preamble := false, setupLength := 0 }

/-- R44: the Profile Store after power-on / RSTN. -/
def ProfileStore.reset : ProfileStore :=
  { profiles := Vector.replicate 8 none, staging := .zero, stagingIndex := 0 }

/-- R91: a Scan Scheduler after power-on / RSTN. -/
def Scheduler.reset : Scheduler :=
  { scanList := Vector.replicate 32 0, scanLength := 0, pass := none, pendingExpiry := false, passInterval := 100
    passTimer := .stopped, overrun := false, urgent := [], probes := [] }

/-- R91, R103, R122, R138: a channel after power-on / RSTN. -/
def Channel.reset : Channel :=
  { sched := .reset, hostWeight := 1, hostTurn := 1, held := none, state := .off, enabled := false, divider := 7
    established := 0, frame := none, drain := .none, hostQueue := [], chainOpen := false, mdioHigh := true }

/-- R91, R192: the attention lines after power-on / RSTN. -/
def Attention.reset : Attention :=
  { levels := 0, sets := Vector.replicate 4 0, holding := 0 }

/-- R138: the Host Transaction Unit after power-on / RSTN. -/
def HostTable.reset : HostTable :=
  { completions := [], outstanding := 0, view := none }

/-- R155: the Event Queue and Notification block after power-on / RSTN. -/
def EventBlock.reset : EventBlock :=
  { queue := [], overflow := false, threshold := 1, holdoff := 0, timer := .stopped, ovf := false, chf := false
    enables := ⟨false, false, false, false⟩, view := none }

/-- R172: an indicator record after power-on / RSTN, and after SOFT_RESET (R173). That the slot of the two OFF patterns is
0 is the model's choice (assumption 13). -/
def IndicatorRec.reset : IndicatorRec :=
  { condition := .none, speed := .s10, states := ⟨false, false, false, false, false⟩, channel := .ch0, port := 0
    whenTrue := ⟨.off, 0⟩, whenFalse := ⟨.off, 0⟩, activeHigh := true, override := none }

/-- R165: an idle flash machine. -/
def FlashMachine.reset : FlashMachine :=
  { phase := .idle, timer := 0, pending := false }

/-- R162: a rate slot whose generator has just been restarted. -/
def RateSlot.restarted (half : Nat) : RateSlot :=
  { half := half, pending := none, phaseOn := true, timer := 10 * half }

/-- R172: the Indicator Engine after power-on / RSTN. -/
def IndicatorEngine.reset : IndicatorEngine :=
  { records := Vector.replicate 48 .reset
    slots := #v[.restarted 25, .restarted 50, .restarted 10, .restarted 100]
    flashWidth := 5, flash := Vector.replicate 24 .reset, chainLength := 8, refreshCount := 0, refreshDue := false
    index := 0, shifted := [] }

/-- R192: the Command Unit after power-on / RSTN. -/
def CommandUnit.reset : CommandUnit :=
  { command := 0, args := Vector.replicate 6 0, result := ⟨.none, 0, 0, none⟩, timed := none, lastTimed := none }

/-- R176: the part right after power-on / RSTN has ended, with no command waiting. -/
def State.reset : State :=
  { rstnLow := false, pt := .reset, ps := .reset, ch0 := .reset, ch1 := .reset, att := .reset, ht := .reset
    ev := .reset, ie := .reset, cu := .reset, spi := .idle, stamp := 0, pending := [] }

end Sys2Proof.Machine
end

