-- ==== Sys2Proof/Machine/Operands.lean ====
section
/-! DEFINITION. Bit fields of words, the argument fields of the command set (R189, Figure 10-7), the codes of the
window (R180, R181) in both directions, and the per-item operations. -/
namespace Sys2Proof.Machine

/-! ### Bit fields -/

/-- The `width` bits of `w` that start at bit `low`, read as an unsigned number (R4). -/
def bits (w : Word) (low width : Nat) : Nat := (w.toNat / 2 ^ low) % 2 ^ width

/-- Bit `n` of `w`. -/
def bit (w : Word) (n : Nat) : Bool := w.getLsbD n

/-- One bit as a number. -/
def bitN (b : Bool) : Nat := if b then 1 else 0

/-- The word whose value is the sum of fields, each a value placed at its lowest bit. Bits that no field takes read 0,
which is the model's choice for 08H and 09H and for the words of Figures 10-3 to 10-6 and 10-8 (assumption 24). -/
def word (fields : List (Nat × Nat)) : Word :=
  BitVec.ofNat 16 (fields.foldl (fun acc f => acc + f.1 * 2 ^ f.2) 0)

/-- Bits 31 to 16 of a 32-bit value. -/
def highWord (v : BitVec 32) : Word := v.extractLsb' 16 16

/-- Bits 15 to 0 of a 32-bit value. -/
def lowWord (v : BitVec 32) : Word := v.extractLsb' 0 16

/-! ### Items -/

/-- R3: the items in item order. -/
def Item.all : List Item := [.link, .neg, .speed, .duplex, .rfault, .partner, .energy, .count]

/-- R180: the number of an item. -/
def Item.index : Item → Nat
  | .link => 0
  | .neg => 1
  | .speed => 2
  | .duplex => 3
  | .rfault => 4
  | .partner => 5
  | .energy => 6
  | .count => 7

/-- R180, R189: the item of a number, if it is one of the eight. -/
def itemOf (n : Nat) : Option Item := Item.all[n]?

/-- The entry of an item. -/
def PerItem.get {α : Type} (v : PerItem α) : Item → α
  | .link => v.link
  | .neg => v.neg
  | .speed => v.speed
  | .duplex => v.duplex
  | .rfault => v.rfault
  | .partner => v.partner
  | .energy => v.energy
  | .count => v.count

/-- The entries with that of one item replaced. -/
def PerItem.set {α : Type} (v : PerItem α) (i : Item) (a : α) : PerItem α :=
  match i with
  | .link => { v with link := a }
  | .neg => { v with neg := a }
  | .speed => { v with speed := a }
  | .duplex => { v with duplex := a }
  | .rfault => { v with rfault := a }
  | .partner => { v with partner := a }
  | .energy => { v with energy := a }
  | .count => { v with count := a }

/-- One bit per item, in item order. -/
def itemBits (f : Item → Bool) : Nat :=
  Item.all.foldl (fun acc i => acc + bitN (f i) * 2 ^ i.index) 0

/-! ### Ports, channels and small numbers -/

/-- The port numbers in order. -/
def allPorts : List PortId := List.finRange 24

/-- The channel of a number. -/
def chanOf (n : Nat) : Option Chan :=
  match n with
  | 0 => some .ch0
  | 1 => some .ch1
  | _ => none

/-- The number of a channel. -/
def chanNumber : Chan → Nat
  | .ch0 => 0
  | .ch1 => 1

/-- The number `n` as a member of 0 to `bound` − 1, if it is one. -/
def finOf (bound n : Nat) : Option (Fin bound) :=
  if h : n < bound then some ⟨n, h⟩ else none

/-! ### Codes of the window (R180, R181, R187) -/

/-- R180: the code of a port state. -/
def PortState.code : PortState → Nat
  | .unbound => 0
  | .probing => 1
  | .active => 2
  | .lost => 3
  | .suspended => 4
  | .failed => 5

/-- R180: the code of a reason. -/
def Reason.code : Reason → Nat
  | .host => 1
  | .resumed => 2
  | .retry => 3
  | .noAnswer => 4
  | .identity => 5
  | .setup => 6
  | .misses => 7
  | .remoteReset => 8
  | .present => 9

/-- R180: the code of an optional reason; 0 is absent. -/
def reasonCode (r : Option Reason) : Nat := (r.map Reason.code).getD 0

/-- R180: the code of a cause. -/
def Cause.code : Cause → Nat
  | .scan => 1
  | .probe => 2
  | .host => 3

/-- R180: the code of a speed. -/
def SpeedCode.code : SpeedCode → Nat
  | .s10 => 0
  | .s100 => 1
  | .s1000 => 2
  | .s2500 => 3

/-- R180: the speed of a code; only the two lowest bits count. -/
def speedOf (n : Nat) : SpeedCode :=
  match n % 4 with
  | 0 => .s10
  | 1 => .s100
  | 2 => .s1000
  | _ => .s2500

/-- R180: the word that shows an item value. -/
def ItemValue.shown : ItemValue → Word
  | .flag b => BitVec.ofNat 16 (bitN b)
  | .speed c => BitVec.ofNat 16 c.code
  | .word w => w

/-- R180: an absent value reads 0. -/
def shownValue (v : Option ItemValue) : Word := (v.map ItemValue.shown).getD 0

/-- R181: the code of a method. -/
def Method.code : Method → Nat
  | .direct => 0
  | .paged => 1
  | .indirect => 2

/-- R181: the method of a code; 3 is outside the range. -/
def methodOf (n : Nat) : Option Method :=
  match n with
  | 0 => some .direct
  | 1 => some .paged
  | 2 => some .indirect
  | _ => none

/-- R181: the code of a latch kind. -/
def LatchKind.code : LatchKind → Nat
  | .plain => 0
  | .latchLow => 1
  | .latchHigh => 2
  | .clearOnRead => 3

/-- R181: the latch kind of a two-bit code. -/
def latchOf (n : Nat) : LatchKind :=
  match n % 4 with
  | 0 => .plain
  | 1 => .latchLow
  | 2 => .latchHigh
  | _ => .clearOnRead

/-- R187: the code of a result. -/
def ResultCode.code : ResultCode → Nat
  | .none => 0
  | .done => 1
  | .inProgress => 2
  | .busy => 3
  | .badArg => 4
  | .badState => 5
  | .conflict => 6
  | .inUse => 7
  | .full => 8
  | .empty => 9
  | .fault => 10

/-- R180: the code of a host result. -/
def HostResult.code : HostResult → Nat
  | .ok => 0
  | .noAnswer => 1
  | .busFault => 2
  | .aborted => 3
  | .portGone => 4
  | .badState => 5

/-- R181: the code of a channel state. -/
def ChanState.code : ChanState → Nat
  | .off => 0
  | .idle => 1
  | .busy => 2
  | .draining => 3
  | .halted => 4

/-- R181: the code of a condition. -/
def Condition.code : Condition → Nat
  | .none => 0
  | .always => 1
  | .linkUp => 2
  | .linkStickyDown => 3
  | .speedIs => 4
  | .fullDuplex => 5
  | .negPending => 6
  | .rfaultSticky => 7
  | .energy => 8
  | .portStateIn => 9
  | .channelHalted => 10
  | .eventsPending => 11

/-- R181: the condition of a code; 12 to 15 are unknown. -/
def conditionOf (n : Nat) : Option Condition :=
  [Condition.none, .always, .linkUp, .linkStickyDown, .speedIs, .fullDuplex, .negPending, .rfaultSticky, .energy,
    .portStateIn, .channelHalted, .eventsPending][n]?

/-- R181: the code of a pattern. -/
def PatternKind.code : PatternKind → Nat
  | .off => 0
  | .on => 1
  | .blinkA => 2
  | .blinkB => 3
  | .flash => 4
  | .onFlashOff => 5

/-- R181: the pattern of a code; 6 and 7 are unknown (R189). -/
def patternOf (n : Nat) : Option PatternKind :=
  [PatternKind.off, .on, .blinkA, .blinkB, .flash, .onFlashOff][n]?

/-! ### Argument fields (R189, Figure 10-7) -/

/-- Argument word `n`. -/
def State.arg (s : State) (n : Fin 6) : Word := s.cu.args[n]

/-- Word 0, bits 7 to 0: the port, the profile, the indicator or the slot. -/
def State.argTarget (s : State) : Nat := bits (s.arg 0) 0 8
/-- Word 0, bits 15 to 8: the channel. -/
def State.argChannel (s : State) : Nat := bits (s.arg 0) 8 8
/-- Word 1, bits 7 to 0: the device address. -/
def State.argDevice (s : State) : Nat := bits (s.arg 1) 0 8
/-- Word 1, bits 15 to 8: the register of a POST, the profile of BIND. -/
def State.argRegister (s : State) : Nat := bits (s.arg 1) 8 8
/-- Words 2 and 3: the expected identity. -/
def State.argIdentity (s : State) : Identity := s.arg 2 ++ s.arg 3
/-- Word 3, bits 7 to 0: the index or the length. -/
def State.argIndex (s : State) : Nat := bits (s.arg 3) 0 8
/-- Word 3, bits 2 to 0: the pattern of OVERRIDE. -/
def State.argPattern (s : State) : Nat := bits (s.arg 3) 0 3
/-- Word 3, bits 5 to 4: the rate slot of OVERRIDE. -/
def State.argSlot (s : State) : Fin 4 := ⟨bits (s.arg 3) 4 2, Nat.mod_lt _ (by decide)⟩
/-- Word 4, bits 7 to 0: the tag. -/
def State.argTag (s : State) : BitVec 8 := (s.arg 4).extractLsb' 0 8
/-- Word 4, bits 9 to 8: the kind of POST. -/
def State.argKind (s : State) : Nat := bits (s.arg 4) 8 2
/-- Word 4, bit 10: the continue flag. -/
def State.argContinue (s : State) : Bool := bit (s.arg 4) 10
/-- Word 4, bits 15 to 12: the item of POST. -/
def State.argItem (s : State) : Nat := bits (s.arg 4) 12 4
/-- Word 5, bits 7 to 0: whether ACK names the item. -/
def State.argNames (s : State) (i : Item) : Bool := bit (s.arg 5) i.index
/-- Word 5, bit 8: the clear-count option. -/
def State.argClearCount (s : State) : Bool := bit (s.arg 5) 8
/-- Word 5, bit 9: expected identity present. -/
def State.argIdentityPresent (s : State) : Bool := bit (s.arg 5) 9
/-- Word 5, bit 10: ignore-revision flag. -/
def State.argIgnoreRevision (s : State) : Bool := bit (s.arg 5) 10
/-- Word 5, bit 11: on or off. -/
def State.argOn (s : State) : Bool := bit (s.arg 5) 11
/-- Word 5, bits 13 to 12: the mode of SET_RATE. -/
def State.argMode (s : State) : Nat := bits (s.arg 5) 12 2

end Sys2Proof.Machine
end

