-- ==== Sys2Proof/Machine/Flags.lean ====
section
/-! DEFINITION. What follows from the state at every moment: the level causes EVQ and CMPL (R148, R149, R152), IRQN
(R154), the current grant (R92), the law of R126 on the outstanding count, and the in-use and bound tests (R43, R45). -/
namespace Sys2Proof.Machine

/-- R148, R149: the EVQ cause. -/
def EventBlock.evq (e : EventBlock) : Bool :=
  decide (e.threshold ≤ e.queue.length) || (decide (1 ≤ e.queue.length) && decide (e.timer = .expired))

/-- R148, R152: the CMPL cause. -/
def HostTable.cmpl (h : HostTable) : Bool := !h.completions.isEmpty

/-- R154: at least one cause is true and enabled. -/
def State.interruptActive (s : State) : Bool :=
  (s.ev.evq && s.ev.enables.evq) || (s.ht.cmpl && s.ev.enables.cmpl)
    || (s.ev.ovf && s.ev.enables.ovf) || (s.ev.chf && s.ev.enables.chf)

/-- R154, R176: the level of IRQN; `true` is high. While RSTN is low it is high. -/
def State.irqn (s : State) : Bool := s.rstnLow || !s.interruptActive

/-- R45: a port is bound while its state is other than UNBOUND. -/
def PortRec.bound (r : PortRec) : Bool := decide (r.state ≠ .unbound)

/-- The channel of a port's binding. -/
def PortRec.onChannel (r : PortRec) (ch : Chan) : Bool :=
  match r.binding with
  | some b => decide (b.channel = ch)
  | none => false

/-- R74, R80: the port is ACTIVE and bound to the channel. -/
def PortRec.activeOn (r : PortRec) (ch : Chan) : Bool := decide (r.state = .active) && r.onChannel ch

/-- R43: at least one bound port names the profile. -/
def PortTable.profileInUse (t : PortTable) (n : Fin 8) : Bool :=
  allPorts.any fun p => t.ports[p].bound && decide (t.ports[p].binding.map Binding.profile = some n)

/-- R48 (d), R135 (a): the bound port at a channel and device address. -/
def PortTable.portAt (t : PortTable) (ch : Chan) (dev : BusAddr) : Option PortId :=
  allPorts.find? fun p => t.ports[p].bound &&
    decide (t.ports[p].binding.map (fun b => (b.channel, b.device)) = some (ch, dev))

/-- R92: the kind of the current grant, with its port for device-side kinds. -/
inductive Grant where
  | none
  | device (kind : DeviceKind) (port : PortId)
  | host
deriving DecidableEq, Repr

/-- R92: the current grant is the unit that holds the channel. -/
def Channel.grant (c : Channel) : Grant :=
  match c.held with
  | none => .none
  | some (.job j) => .device j.kind j.port
  | some (.host _) => .host

/-- R97: the host side is ready when the head of the host queue is a single transaction or a closed chain. -/
def Channel.hostReady (c : Channel) : Bool :=
  !c.hostQueue.isEmpty && (!c.chainOpen || decide (1 < c.hostQueue.length))

/-- R126: the transactions queued on a channel. -/
def Channel.queuedCount (c : Channel) : Nat := (c.hostQueue.map List.length).sum

/-- R126: the transactions in flight on a channel. -/
def Channel.inFlightCount (c : Channel) : Nat :=
  match c.held with
  | some (.host r) => r.done.length + 1 + r.todo.length
  | _ => 0

/-- R190: a SOFT_RESET waits for its drains. -/
def CommandUnit.softResetting (c : CommandUnit) : Bool :=
  match c.timed with
  | some t => decide (t.code = 20#8)
  | none => false

end Sys2Proof.Machine
end

