-- ==== Sys2Proof/Machine/Ops.lean ====
section
/-! DEFINITION. The named operations every block shares: access to ports and channels, timers, and the taking of a
posted event (R141 to R144, R150). -/
namespace Sys2Proof.Machine

/-! ### Access -/

/-- Apply a function to every entry. -/
def mapVec {α β : Type} {n : Nat} (f : α → β) (v : Vector α n) : Vector β n :=
  ⟨⟨v.toArray.toList.map f⟩, by simp⟩

/-- The record of a port. -/
def State.port (s : State) (p : PortId) : PortRec := s.pt.ports[p]

/-- The record of a port replaced. -/
def State.setPort (s : State) (p : PortId) (r : PortRec) : State :=
  { s with pt := { s.pt with ports := s.pt.ports.set p r } }

/-- The record of a port changed. -/
def State.modPort (s : State) (p : PortId) (f : PortRec → PortRec) : State := s.setPort p (f (s.port p))

/-- A channel. -/
def State.chan (s : State) : Chan → Channel
  | .ch0 => s.ch0
  | .ch1 => s.ch1

/-- A channel replaced. -/
def State.setChan (s : State) (ch : Chan) (c : Channel) : State :=
  match ch with
  | .ch0 => { s with ch0 := c }
  | .ch1 => { s with ch1 := c }

/-- A channel changed. -/
def State.modChan (s : State) (ch : Chan) (f : Channel → Channel) : State := s.setChan ch (f (s.chan ch))

/-- The Scan Scheduler of a channel changed. -/
def State.modSched (s : State) (ch : Chan) (f : Scheduler → Scheduler) : State :=
  s.modChan ch fun c => { c with sched := f c.sched }

/-- The profile a binding names. -/
def State.profile (s : State) (n : Fin 8) : Option Profile := s.ps.profiles[n]

/-! ### Timers (R67, R72, R150, R162, R165, R167) -/

/-- A tick counts a running timer down; 0 is a timer whose expiry is due. -/
def tickTimer (t : Option Nat) : Option Nat := t.map (· - 1)

/-- The expiry of a timer is due. -/
def timerDue (t : Option Nat) : Bool := decide (t = some 0)

/-! ### Events (R140 to R144) -/

/-- R140: the key of an event. -/
def EventBody.key : EventBody → EventKey
  | .itemChange p i _ _ _ => .item p i
  | .stateChange p _ _ _ => .state p
  | .channelFault c => .channel c

/-- R143: the fields a record keeps and those it takes from an event folded into it. -/
def EventBody.fold (old new : EventBody) : EventBody :=
  match old, new with
  | .itemChange p i o _ _, .itemChange _ _ _ n c => .itemChange p i o n c
  | .stateChange p o _ _, .stateChange _ _ n r => .stateChange p o n r
  | old, _ => old

/-- R143: an event folded into a record. -/
def EventRec.fold (r : EventRec) (b : EventBody) (stamp : Word) : EventRec :=
  { r with body := r.body.fold b, repeats := if r.repeats < 255 then r.repeats + 1 else r.repeats, lastStamp := stamp }

/-- R141: a record with the key waits in the queue. -/
def EventBlock.holds (e : EventBlock) (k : EventKey) : Bool := e.queue.any fun r => decide (r.body.key = k)

/-- R150: the holdoff timer as it starts with the holdoff in force. -/
def EventBlock.startedTimer (e : EventBlock) : HoldoffTimer :=
  if e.holdoff = 0 then .expired else .running e.holdoff

/-- R141 (a), R143: the event is folded into the record with its key, which keeps its place. -/
def EventBlock.foldIn (e : EventBlock) (b : EventBody) (stamp : Word) : EventBlock :=
  { e with queue := e.queue.map fun r => if r.body.key = b.key then r.fold b stamp else r }

/-- R141 (b), R142: a new record at the tail; the first record of a batch starts the holdoff timer (R150). -/
def EventBlock.store (e : EventBlock) (b : EventBody) (stamp : Word) : EventBlock :=
  { e with
    queue := e.queue ++ [⟨b, 1, stamp, stamp⟩]
    timer := if e.queue.isEmpty then e.startedTimer else e.timer }

/-- R144: the event is refused. -/
def EventBlock.refuse (e : EventBlock) : EventBlock := { e with overflow := true, ovf := true }

/-- R141: how a posted event is taken; the second component is whether it was refused. -/
def EventBlock.take (e : EventBlock) (b : EventBody) (stamp : Word) : EventBlock × Bool :=
  if e.holds b.key then (e.foldIn b stamp, false)
  else if e.queue.length < Config.eventCapacity then (e.store b stamp, false)
  else (e.refuse, true)

/-- R10, R144: the port an event of a port names. -/
def EventBody.port? : EventBody → Option PortId
  | .itemChange p _ _ _ _ => some p
  | .stateChange p _ _ _ => some p
  | .channelFault _ => none

/-- R10, R141, R144: an event is posted, with the stamp of the moment; a refusal sets RESYNC of the event's port in
the same claim. -/
def State.post (s : State) (b : EventBody) : State :=
  let (e, refused) := s.ev.take b s.stamp
  let s := { s with ev := e }
  match b.port?, refused with
  | some p, true => s.modPort p fun r => { r with resync := true }
  | _, _ => s

end Sys2Proof.Machine
end

