-- ==== Sys2Proof/Machine/PortTable.lean ====
section
/-! DEFINITION. The Port Table (Chapters 1 and 3): how a fetch result changes a record, lifecycle transitions, and the
outcomes of jobs. -/
namespace Sys2Proof.Machine

/-! ### Values (R4) -/

/-- R4: the field of a recipe in a register word. -/
def Recipe.field (r : Recipe) (w : Word) : Nat := bits w r.low r.width

/-- R4: whether a one-bit field gives the asserted value. -/
def Recipe.asserted (r : Recipe) (w : Word) : Bool :=
  match r.polarity with
  | .normal => decide (r.field w = 1)
  | .inverted => decide (r.field w = 0)

/-- R31: the entry of the speed map that a field value selects. -/
def SpeedMap.entry (m : SpeedMap) (n : Nat) : SpeedCode :=
  match n % 4 with
  | 0 => m.e0
  | 1 => m.e1
  | 2 => m.e2
  | _ => m.e3

/-- R4: the value an item takes from a register word. -/
def Profile.value (f : Profile) (i : Item) (r : Recipe) (w : Word) : ItemValue :=
  match i with
  | .speed => .speed (f.speedMap.entry (r.field w))
  | .partner => .word (BitVec.ofNat 16 (r.field w))
  | .count => .word (BitVec.ofNat 16 (r.field w))
  | _ => .flag (r.asserted w)

/-- R7: the value of LINK or RFAULT that its sticky flag holds: down, or true. -/
def badValue (i : Item) (v : ItemValue) : Bool :=
  match i with
  | .link => decide (v = .flag false)
  | .rfault => decide (v = .flag true)
  | _ => false

/-- R4: the recipe's latch kind is one that latches. -/
def Recipe.latching (r : Recipe) : Bool := decide (r.latch = .latchLow) || decide (r.latch = .latchHigh)

/-- R4: the word holds a latched value of the item. -/
def Profile.latched (f : Profile) (i : Item) (r : Recipe) (w : Word) : Bool :=
  r.latching && badValue i (f.value i r w)

/-- R36: the first-read word of a location calls for a confirm read: it holds a latched value of a served item whose
recipe has the confirm option. -/
def Profile.wantsConfirm (f : Profile) (l : Location) (w : Word) : Bool :=
  Item.all.any fun i =>
    match f.recipes.get i with
    | some r => decide (r.loc = l) && r.confirm && f.latched i r w
    | none => false

/-! ### Observations (R11 to R21) -/

/-- R7: the sticky flag of an item; items other than LINK and RFAULT have none. -/
def PortRec.sticky (r : PortRec) : Item → Bool
  | .link => r.stickyDown
  | .rfault => r.stickyFault
  | _ => false

/-- R7: the sticky flag of an item set. -/
def PortRec.setSticky (r : PortRec) : Item → PortRec
  | .link => { r with stickyDown := true }
  | .rfault => { r with stickyFault := true }
  | _ => r

/-- R6: the changed flag of an item set. -/
def PortRec.setChanged (r : PortRec) (i : Item) : PortRec := { r with changed := r.changed.set i true }

/-- R14 to R16, R20: the mirror value of an item becomes `new`; the item's sticky flag is set when `bad` holds; the
changed flag is set and one item-change event posted when the value changes or the sticky flag is newly set. -/
def State.setItem (s : State) (p : PortId) (i : Item) (new : Option ItemValue) (bad : Bool) (c : Cause) : State :=
  let r := s.port p
  let old := r.mirror.get i
  let newly := bad && !r.sticky i && (decide (i = .link) || decide (i = .rfault))
  let r1 := if bad then r.setSticky i else r
  let r2 := { r1 with mirror := r1.mirror.set i new }
  if decide (old ≠ new) || newly then (s.setPort p (r2.setChanged i)).post (.itemChange p i old new c)
  else s.setPort p r2

/-- R8: the accumulator with a reading added, saturating. -/
def satAdd (acc : BitVec 32) (n : Nat) : BitVec 32 :=
  if acc.toNat + n ≤ 4294967295 then BitVec.ofNat 32 (acc.toNat + n) else 4294967295#32

/-- R17: an observation of COUNT: its readings are added, the saturated flag is set by a reading of 65535, and the
mirror takes the last reading. The activity arrival of R17 (d) is handed over by the caller. -/
def State.applyCount (s : State) (p : PortId) (first : Word) (second : Option Word) (c : Cause) : State :=
  let r := s.port p
  let total := first.toNat + (second.map BitVec.toNat).getD 0
  let last := second.getD first
  let full := decide (first = 0xFFFF#16) || decide (second = some 0xFFFF#16)
  let old := r.mirror.get .count
  let r1 := { r with accumulator := satAdd r.accumulator total, mirror := r.mirror.set .count (some (.word last)) }
  if full && !r.saturated then
    (s.setPort p ({ r1 with saturated := true }.setChanged .count)).post
      (.itemChange p .count old (some (.word 0xFFFF#16)) c)
  else s.setPort p r1

/-- R165: an activity arrival for a port. -/
def FlashMachine.arrive (m : FlashMachine) (width : Nat) : FlashMachine :=
  match m.phase with
  | .idle => { m with phase := .pulse, timer := 10 * width }
  | _ => { m with pending := true }

/-- R21, R165: an activity arrival is handed to the Indicator Engine. -/
def State.activity (s : State) (p : PortId) : State :=
  { s with ie := { s.ie with flash := s.ie.flash.set p (s.ie.flash[p].arrive s.ie.flashWidth) } }

/-- R13, R18: PARTNER's turn when NEG was observed false in the same claim: a present value becomes absent. -/
def State.dropPartner (s : State) (p : PortId) (c : Cause) : State :=
  if (s.port p).mirror.partner.isSome then s.setItem p .partner none false c else s

/-- A fetch result (R11): the words of a location and the reading of the profile whose recipes apply (R39). -/
structure FetchResult where
  port : PortId
  profile : Profile
  loc : Location
  cause : Cause
  first : Word
  second : Option Word
deriving DecidableEq, Repr

/-- R13: the live value of an item served by a fetch result. -/
def FetchResult.live (f : FetchResult) (i : Item) (r : Recipe) : ItemValue :=
  f.profile.value i r (f.second.getD f.first)

/-- R13: the recipe of an item that the fetch's location serves. -/
def FetchResult.serves (f : FetchResult) (i : Item) : Option Recipe :=
  match f.profile.recipes.get i with
  | some r => if r.loc = f.loc then some r else none
  | none => none

/-- R7, R15, R16: an observation of an item sets its sticky flag: the live value, or the latched first read, is the bad
one. -/
def FetchResult.bad (f : FetchResult) (i : Item) (r : Recipe) : Bool :=
  badValue i (f.live i r) || f.profile.latched i r f.first

/-- R18: NEG is observed false by the fetch. -/
def FetchResult.negFalse (f : FetchResult) : Bool :=
  match f.serves .neg with
  | some r => decide (f.live .neg r = .flag false)
  | none => false

/-- R13 to R18: one item's turn in the application of a fetch result. -/
def State.applyItem (f : FetchResult) (s : State) (i : Item) : State :=
  match i with
  | .count =>
    match f.serves .count with
    | some r => s.applyCount f.port (BitVec.ofNat 16 (r.field f.first))
        (f.second.map fun w => BitVec.ofNat 16 (r.field w)) f.cause
    | none => s
  | .partner =>
    let s := if f.negFalse then s.dropPartner f.port f.cause else s
    match f.serves .partner with
    | some r =>
      if (s.port f.port).mirror.neg = some (.flag true) then
        s.setItem f.port .partner (some (f.live .partner r)) false f.cause
      else s
    | none => s
  | i =>
    match f.serves i with
    | some r => s.setItem f.port i (some (f.live i r)) (f.bad i r) f.cause
    | none => s

/-- R17 (d), R21: the readings of COUNT in the fetch sum to more than 0. -/
def FetchResult.traffic (f : FetchResult) : Bool :=
  match f.serves .count with
  | some r => decide (0 < r.field f.first + (f.second.map r.field).getD 0)
  | none => false

/-- R11, R13: a fetch result applied whole: the served items in item order, then the activity arrival. -/
def State.applyFetch (s : State) (f : FetchResult) : State :=
  let s := Item.all.foldl (State.applyItem f) s
  if f.traffic then s.activity f.port else s

/-- R12: a fetch result is applied only while the port is in the state the producing work requires. -/
def State.takeFetch (s : State) (need : PortState) (f : FetchResult) : State :=
  if (s.port f.port).state = need then s.applyFetch f else s

/-- R5: one item of a clearing of the live mirror. COUNT becomes absent without flag or event; LINK also sets
sticky-down. -/
def State.clearItem (p : PortId) (s : State) (i : Item) : State :=
  match i with
  | .count => s.modPort p fun r => { r with mirror := { r.mirror with count := none } }
  | .link => s.setItem p .link none true .scan
  | i => s.setItem p i none false .scan

/-- R5: the live mirror of a port cleared. -/
def State.clearLive (s : State) (p : PortId) : State := Item.all.foldl (State.clearItem p) s

/-! ### Queues of the Scan Scheduler as the Port Table asks for them (R47, R81, R82) -/

/-- R82: a member placed at the tail of the probe queue; a port already there leaves the queue as it was. -/
def Scheduler.pushProbe (c : Scheduler) (p : PortId) (k : ProbeKind) : Scheduler :=
  if c.probes.any (fun m => decide (m.1 = p)) then c else { c with probes := c.probes ++ [(p, k)] }

/-- R59, R82: a member returned to the front of the probe queue. -/
def Scheduler.returnProbe (c : Scheduler) (p : PortId) (k : ProbeKind) : Scheduler :=
  if c.probes.any (fun m => decide (m.1 = p)) then c else { c with probes := (p, k) :: c.probes }

/-- R47 (c): a port removed from the probe queue. -/
def Scheduler.dropProbe (c : Scheduler) (p : PortId) : Scheduler :=
  { c with probes := c.probes.filter fun m => decide (m.1 ≠ p) }

/-- R81: a port added to the urgent queue; a port already there keeps its place. -/
def Scheduler.pushUrgent (c : Scheduler) (p : PortId) : Scheduler :=
  if p ∈ c.urgent then c else { c with urgent := c.urgent ++ [p] }

/-- R47 (c): a port removed from the urgent queue. -/
def Scheduler.dropUrgent (c : Scheduler) (p : PortId) : Scheduler :=
  { c with urgent := c.urgent.filter fun q => decide (q ≠ p) }

/-! ### Lifecycle transitions (R47) -/

/-- R12, R131: a unit in flight for the port marked stale: a job of the port, or a host ITEM_READ of it at its turn. -/
def HeldUnit.markStale (p : PortId) : HeldUnit → HeldUnit
  | .job j => if j.port = p then .job { j with stale := true } else .job j
  | .host r =>
    match r.current.txn.op with
    | .itemRead q _ _ => if q = p then .host { r with current := { r.current with stale := true } } else .host r
    | _ => .host r

/-- R47 (b): whatever is in flight for the port is marked stale, on either channel. -/
def State.markStale (s : State) (p : PortId) : State :=
  { s with
    ch0 := { s.ch0 with held := s.ch0.held.map (HeldUnit.markStale p) }
    ch1 := { s.ch1 with held := s.ch1.held.map (HeldUnit.markStale p) } }

/-- R47 (c): the removals of a port that leaves state `old`, on the channel of its binding. -/
def Scheduler.leave (c : Scheduler) (p : PortId) (old : PortState) : Scheduler :=
  match old with
  | .active => c.dropUrgent p
  | .probing => c.dropProbe p
  | .lost => c.dropProbe p
  | _ => c

/-- R47 (d): the additions for a port that enters state `new`. -/
def Scheduler.enter (c : Scheduler) (p : PortId) (new : PortState) : Scheduler :=
  match new with
  | .probing => c.pushProbe p .probe
  | _ => c

/-- A claim on the scheduler of a binding's channel, if there is a binding. -/
def State.schedOf (s : State) (b : Option Binding) (f : Scheduler → Scheduler) : State :=
  match b with
  | some b => s.modSched b.channel f
  | none => s

/-- R47: a lifecycle transition to a different state, whole. `effects` are the transition's own effects on the record
(a clearing of the live mirror goes before it); the two timers are cancelled, and the lost-check timer started when the
new state is LOST. -/
def State.transition (s : State) (p : PortId) (new : PortState) (reason : Option Reason)
    (effects : PortRec → PortRec) : State :=
  let before := s.port p
  let after := { effects before with
    state := new, reason := reason, probeRetry := none
    lostCheck := if new = .lost then some s.pt.lostInterval else none }
  let s := s.setPort p after
  let s := s.markStale p
  let s := s.schedOf before.binding fun c => c.leave p before.state
  let s := s.schedOf after.binding fun c => c.enter p new
  s.post (.stateChange p before.state new reason)

/-! ### Outcomes (R53, R56, R57, R59, R60, R61, R63) -/

/-- R60, R53, R63, R89: the outcomes of jobs. `good` is CLEAN, SUCCESS or ANSWERED. -/
inductive JobOutcome where
  | good | noAnswer | identity | setup | markerMismatch | busFault | aborted
deriving DecidableEq, Repr

/-- R60: a scan job's outcome on an ACTIVE port. -/
def State.scanOutcome (s : State) (p : PortId) (o : JobOutcome) : State :=
  match o with
  | .good => (s.modPort p fun r => { r with missCount := 0, lastGood := some s.stamp }).markStale p
  | .noAnswer =>
    let s := s.modPort p fun r =>
      { r with missCount := if r.missCount < s.pt.missLimit then r.missCount + 1 else r.missCount }
    if (s.port p).missCount = s.pt.missLimit then
      (s.clearLive p).transition p .lost (some .misses) id
    else s.markStale p
  | .markerMismatch =>
    (s.clearLive p).transition p .probing (some .remoteReset) fun r => { r with attemptCount := 0 }
  | _ => s

/-- R57: a counted failure of a probe attempt. -/
def State.probeFailed (s : State) (p : PortId) (reason : Reason) : State :=
  let s := s.modPort p fun r =>
    { r with attemptCount := if r.attemptCount < s.pt.attemptLimit then r.attemptCount + 1 else r.attemptCount }
  if (s.port p).attemptCount = s.pt.attemptLimit then s.transition p .failed (some reason) id
  else (s.modPort p fun r => { r with probeRetry := some s.pt.retryInterval }).markStale p

/-- R59: the member of an uncounted probe or presence check returned to the front of its channel's probe queue. -/
def State.requeue (s : State) (p : PortId) (k : ProbeKind) : State :=
  s.schedOf (s.port p).binding fun c => c.returnProbe p k

/-- R53, R54, R56, R57, R59: a probe job's outcome on a PROBING port. -/
def State.probeOutcome (s : State) (p : PortId) (o : JobOutcome) : State :=
  match o with
  | .good => s.transition p .active (s.port p).reason fun r => { r with missCount := 0, lastGood := some s.stamp }
  | .noAnswer => s.probeFailed p .noAnswer
  | .setup => s.probeFailed p .setup
  | .identity => s.transition p .failed (some .identity) id
  | .busFault => s.requeue p .probe
  | .aborted => s.requeue p .probe
  | .markerMismatch => s

/-- R63: a presence-check job's outcome on a LOST port. -/
def State.presenceOutcome (s : State) (p : PortId) (o : JobOutcome) : State :=
  match o with
  | .good => s.transition p .probing (some .present) fun r => { r with attemptCount := 0 }
  | .noAnswer => (s.modPort p fun r => { r with lostCheck := some s.pt.lostInterval }).markStale p
  | .busFault => s.requeue p .presence
  | .aborted => s.requeue p .presence
  | _ => s

/-- R53, R60, R63: the port state a job's outcome and fetch results require (R12). -/
def DeviceKind.needs : DeviceKind → PortState
  | .probe => .probing
  | .presence => .lost
  | _ => .active

/-- R53, R60, R63, R68: a job's outcome is applied only if the port is in the state the job requires, the job is not
stale, and no SOFT_RESET drains the part. -/
def State.jobOutcome (s : State) (j : Job) (o : JobOutcome) : State :=
  if j.stale || s.cu.softResetting || decide ((s.port j.port).state ≠ j.kind.needs) then s
  else
    match j.kind with
    | .probe => s.probeOutcome j.port o
    | .presence => s.presenceOutcome j.port o
    | _ => s.scanOutcome j.port o

end Sys2Proof.Machine
end

