-- ==== Sys2Proof/Machine/Profiles.lean ====
section
/-! DEFINITION. The Profile Store (Chapter 2): the checks of PROFILE_LOAD, the fetch plan, and the staging words of the
register window (R181, Figure 10-6). -/
namespace Sys2Proof.Machine

/-- R28: the location that a staged location names. -/
def StagedLoc.location (l : StagedLoc) : Location :=
  match l.method with
  | .direct => .direct l.reg
  | .paged => .paged l.second l.value l.reg (if l.restorePresent then some l.restore else none)
  | .indirect => .indirect l.second l.value l.reg

/-- R30: the recipe that a staged recipe names. -/
def StagedRecipe.recipe (r : StagedRecipe) : Recipe :=
  { loc := r.loc.location, low := r.low.toNat, width := r.width, polarity := r.polarity, latch := r.latch
    confirm := r.confirm }

/-- R27: an optional recipe is present when its flag is set. -/
def StagedRecipe.optional (r : StagedRecipe) : Option Recipe := if r.present then some r.recipe else none

/-- R27: the present recipes of the staging record. -/
def Staging.recipe (g : Staging) (i : Item) : Option Recipe := (g.recipes.get i).optional

/-- R33: a staged step as a write step. -/
def StagedStep.step (t : StagedStep) : WriteStep := { loc := t.loc.location, value := t.value }

/-- R27, R34: the marker of the staging record. -/
def Staging.markerStep (g : Staging) : Option WriteStep := if g.markerPresent then some g.marker.step else none

/-! ### The fetch plan (R38) -/

/-- R38: the items of a set of recipes whose location is `l`, in item order. -/
def servedItems (recipe : Item → Option Recipe) (l : Location) : List Item :=
  Item.all.filter fun i => decide ((recipe i).map Recipe.loc = some l)

/-- R38: the distinct locations of the recipes, by the lowest index of the items each serves. -/
def planLocations (recipe : Item → Option Recipe) : List Location :=
  (Item.all.filterMap fun i => (recipe i).map Recipe.loc).foldl
    (fun acc l => if l ∈ acc then acc else acc ++ [l]) []

/-- R38: an entry may make a confirm read when a served item latches and has the confirm option. -/
def confirmCapable (recipe : Item → Option Recipe) (l : Location) : Bool :=
  (servedItems recipe l).any fun i =>
    match recipe i with
    | some r => r.latching && r.confirm
    | none => false

/-- R38: the fetch plan of a set of recipes. -/
def fetchPlan (recipe : Item → Option Recipe) : List PlanEntry :=
  (planLocations recipe).map fun l =>
    { loc := l, items := servedItems recipe l, confirmCapable := confirmCapable recipe l }

/-! ### The checks of PROFILE_LOAD (R42, Figure 2-8) -/

/-- The first item in item order whose present recipe fails a test. -/
def Staging.firstFailing (g : Staging) (fails : Item → Recipe → Bool) : Option Item :=
  Item.all.find? fun i =>
    match g.recipe i with
    | some r => fails i r
    | none => false

/-- R42, check 2: the one-bit items. -/
def Item.oneBit : Item → Bool
  | .link => true
  | .neg => true
  | .duplex => true
  | .rfault => true
  | .energy => true
  | _ => false

/-- R42, check 5: the latch kinds an item may take (Figure 1-2). -/
def Item.mayLatch (i : Item) (k : LatchKind) : Bool :=
  match i with
  | .link => decide (k = .plain) || decide (k = .latchLow)
  | .rfault => decide (k = .plain) || decide (k = .latchHigh)
  | .count => decide (k = .clearOnRead)
  | _ => decide (k = .plain)

/-- R42, check 7: the lowest index of the items that share the location of a present recipe. -/
def Staging.planIndex (g : Staging) (l : Location) : Nat :=
  ((servedItems g.recipe l).map Item.index).headD 8

/-- R42, check 7: PARTNER without NEG, or fetched before NEG. -/
def Staging.partnerEarly (g : Staging) : Bool :=
  match g.recipe .partner, g.recipe .neg with
  | some _, none => true
  | some p, some n => decide (g.planIndex p.loc < g.planIndex n.loc)
  | none, _ => false

/-- A failed check: its sub-code and the item named. -/
abbrev CheckFailure := Nat × Option Item

/-- A check that names the failing item. -/
def named (sub : Nat) (i : Option Item) : Option CheckFailure := i.map fun i => (sub, some i)

/-- R42: the checks in the order of Figure 2-8; the first failure, if there is one. -/
def Staging.check (g : Staging) : Option CheckFailure :=
  [ named 1 (g.firstFailing fun _ r => decide (r.width = 0) || decide (16 < r.low + r.width)),
    named 2 (g.firstFailing fun i r => i.oneBit && decide (r.width ≠ 1)),
    named 3 (g.firstFailing fun i r => decide (i = .speed) && decide (r.width ≠ 1) && decide (r.width ≠ 2)),
    named 4 (g.firstFailing fun i r => decide (i = .count) && decide (r.width ≠ 16)),
    named 5 (g.firstFailing fun i r => !i.mayLatch r.latch),
    named 6 (g.firstFailing fun _ r => r.confirm && !r.latching),
    (if g.partnerEarly then some (7, some .partner) else none),
    (if g.identPresent && (decide (g.identHigh.method ≠ .direct) || decide (g.identLow.method ≠ .direct))
      then some (8, none) else none),
    named 9 (match g.markerStep with
      | some m => g.firstFailing fun _ r => decide (r.loc = m.loc)
      | none => none),
    (if Item.all.all fun i => (g.recipe i).isNone then some (10, none) else none) ].findSome? id

/-- R41 (d): the profile that the staging record installs. -/
def Staging.install (g : Staging) : Profile :=
  { recipes := ⟨g.recipe .link, g.recipe .neg, g.recipe .speed, g.recipe .duplex, g.recipe .rfault, g.recipe .partner,
      g.recipe .energy, g.recipe .count⟩
    speedMap := g.speedMap
    identity := if g.identPresent then some (g.identHigh.reg, g.identLow.reg) else none
    setup := (g.steps.toList.take g.setupLength).map StagedStep.step
    marker := g.markerStep
    preamble := g.preamble
    plan := fetchPlan g.recipe }

/-! ### Staging words (R40, R181, Figure 10-6) -/

/-- R181: a location word 41H; a method code of 3 leaves the method as it was.
Bits without a field are ignored (assumption 24). -/
def StagedLoc.writeWord (l : StagedLoc) (v : Word) : StagedLoc :=
  { l with
    method := (methodOf (bits v 0 2)).getD l.method
    restorePresent := bit v 2
    reg := v.extractLsb' 3 5
    second := v.extractLsb' 8 5 }

/-- Figure 10-6: the location word 41H as it reads; bits without a field read 0 (assumption 24). -/
def StagedLoc.readWord (l : StagedLoc) : Word :=
  word [(l.method.code, 0), (bitN l.restorePresent, 2), (l.reg.toNat, 3), (l.second.toNat, 8)]

/-- R181: words 41H to 43H of a part's location. -/
def StagedLoc.write (l : StagedLoc) (n : Fin 4) (v : Word) : StagedLoc :=
  match n with
  | 0 => l.writeWord v
  | 1 => { l with value := v }
  | 2 => { l with restore := v }
  | 3 => l

/-- R181: words 41H to 43H of a part's location as they read. -/
def StagedLoc.read (l : StagedLoc) (n : Fin 4) : Word :=
  match n with
  | 0 => l.readWord
  | 1 => l.value
  | 2 => l.restore
  | 3 => 0

/-- R181: word 44H of an item recipe; a width of 17 to 31 leaves the width as it was.
Bits without a field are ignored (assumption 24). -/
def StagedRecipe.writeField (r : StagedRecipe) (v : Word) : StagedRecipe :=
  { r with
    present := bit v 0
    low := v.extractLsb' 1 4
    width := if bits v 5 5 ≤ 16 then bits v 5 5 else r.width
    polarity := if bit v 10 then .inverted else .normal
    latch := latchOf (bits v 11 2)
    confirm := bit v 13 }

/-- Figure 10-6: word 44H of an item recipe as it reads; bits without a field read 0 (assumption 24). -/
def StagedRecipe.readField (r : StagedRecipe) : Word :=
  word [(bitN r.present, 0), (r.low.toNat, 1), (r.width, 5), (bitN (decide (r.polarity = .inverted)), 10),
    (r.latch.code, 11), (bitN r.confirm, 13)]

/-- R181: a word of an item recipe part. -/
def StagedRecipe.write (r : StagedRecipe) (n : Fin 4) (v : Word) : StagedRecipe :=
  if n = 3 then r.writeField v else { r with loc := r.loc.write n v }

/-- R181: a word of an item recipe part as it reads. -/
def StagedRecipe.read (r : StagedRecipe) (n : Fin 4) : Word :=
  if n = 3 then r.readField else r.loc.read n

/-- R181: a word of a setup step or of the marker. -/
def StagedStep.write (t : StagedStep) (n : Fin 4) (v : Word) : StagedStep :=
  if n = 3 then { t with value := v } else { t with loc := t.loc.write n v }

/-- R181: a word of a setup step or of the marker as it reads. -/
def StagedStep.read (t : StagedStep) (n : Fin 4) : Word :=
  if n = 3 then t.value else t.loc.read n

/-- R181: the words of the general part; a method code of 3 or a length above 8 leaves its field as it was.
Bits without a field are ignored (assumption 24). -/
def Staging.writeGeneral (g : Staging) (n : Fin 4) (v : Word) : Staging :=
  match n with
  | 0 =>
    { g with
      identPresent := bit v 0
      identHigh := ⟨(methodOf (bits v 1 2)).getD g.identHigh.method, v.extractLsb' 3 5⟩
      identLow := ⟨(methodOf (bits v 8 2)).getD g.identLow.method, v.extractLsb' 10 5⟩ }
  | 1 =>
    { g with
      speedMap := ⟨speedOf (bits v 0 2), speedOf (bits v 2 2), speedOf (bits v 4 2), speedOf (bits v 6 2)⟩
      preamble := bit v 8
      setupLength := if bits v 9 4 ≤ 8 then bits v 9 4 else g.setupLength
      markerPresent := bit v 13 }
  | 2 => g
  | 3 => g

/-- R181: the words of the general part as they read; bits without a field read 0 (assumption 24). -/
def Staging.readGeneral (g : Staging) (n : Fin 4) : Word :=
  match n with
  | 0 => word [(bitN g.identPresent, 0), (g.identHigh.method.code, 1), (g.identHigh.reg.toNat, 3),
      (g.identLow.method.code, 8), (g.identLow.reg.toNat, 10)]
  | 1 => word [(g.speedMap.e0.code, 0), (g.speedMap.e1.code, 2), (g.speedMap.e2.code, 4), (g.speedMap.e3.code, 6),
      (bitN g.preamble, 8), (g.setupLength, 9), (bitN g.markerPresent, 13)]
  | 2 => 0
  | 3 => 0

/-- R181: the part that a staging index selects. -/
inductive StagingPart where
  | recipe (i : Item)
  | step (n : Fin 8)
  | marker
  | general
deriving DecidableEq, Repr

/-- R181: 0 to 7 the recipes in item order, 8 to 15 the setup steps, 16 the marker, 17 the general part. -/
def stagingPart (index : Nat) : StagingPart :=
  match itemOf index with
  | some i => .recipe i
  | none =>
    if h : index - 8 < 8 then .step ⟨index - 8, h⟩
    else if index = 16 then .marker
    else .general

/-- R181: a word of the selected part written. -/
def Staging.write (g : Staging) (part : StagingPart) (n : Fin 4) (v : Word) : Staging :=
  match part with
  | .recipe i => { g with recipes := g.recipes.set i ((g.recipes.get i).write n v) }
  | .step k => { g with steps := g.steps.set k (g.steps[k].write n v) }
  | .marker => { g with marker := g.marker.write n v }
  | .general => g.writeGeneral n v

/-- R181: a word of the selected part as it reads. -/
def Staging.read (g : Staging) (part : StagingPart) (n : Fin 4) : Word :=
  match part with
  | .recipe i => (g.recipes.get i).read n
  | .step k => g.steps[k].read n
  | .marker => g.marker.read n
  | .general => g.readGeneral n

/-- R181: a write of the staging index; an index above 17 leaves it as it was. -/
def ProfileStore.writeIndex (t : ProfileStore) (v : Word) : ProfileStore :=
  if v.toNat ≤ 17 then { t with stagingIndex := v.toNat } else t

/-- R181: a write of a staging part word. -/
def ProfileStore.writePart (t : ProfileStore) (n : Fin 4) (v : Word) : ProfileStore :=
  { t with staging := t.staging.write (stagingPart t.stagingIndex) n v }

end Sys2Proof.Machine
end

