-- ==== Sys2Proof/Machine/Units.lean ====
section
/-! DEFINITION. Units of work (Chapters 3, 4, 6 and 7): the frames that reach a location, the pieces of a job, the
members of a host unit, and how a unit goes on when a frame of it has ended. -/
namespace Sys2Proof.Machine

/-! ### Accesses to a location (R36, R37, Figures 2-3 and 2-4) -/

/-- R28: the first frame of an access: DIRECT needs no select write. -/
def Location.firstPhase : Location → Phase
  | .direct _ => .main
  | .paged .. => .select
  | .indirect .. => .select

/-- R36: the restore write that ends a PAGED access with a restore value. -/
def Location.restorePhase : Location → Option Phase
  | .paged _ _ _ (some _) => some .restore
  | _ => none

/-- R36: the first frame of a confirm read; INDIRECT writes its address again. -/
def Location.confirmPhase : Location → Phase
  | .indirect .. => .reselect
  | _ => .confirm

/-- An access about to make its first frame: a read, or a write of `data`. -/
def Access.start (l : Location) (data : Option Word) : Access :=
  { loc := l, data := data, phase := l.firstPhase, first := none, second := none, failed := false }

/-- R64: no frame of the access has begun before the one it stands at. -/
def Access.atStart (a : Access) : Bool := decide (a.phase = a.loc.firstPhase)

/-- The operation of the access's main frame. -/
def Access.mainOp (a : Access) : FrameOp :=
  match a.data with
  | some w => .write w
  | none => .read

/-- R36, R37: the frame of the access at its phase, addressed to a device. -/
def Access.frame (a : Access) (device : BusAddr) : Frame :=
  match a.loc with
  | .direct reg => ⟨device, reg, a.mainOp⟩
  | .paged pageReg page reg restore =>
    match a.phase with
    | .select => ⟨device, pageReg, .write page⟩
    | .reselect => ⟨device, pageReg, .write page⟩
    | .main => ⟨device, reg, a.mainOp⟩
    | .confirm => ⟨device, reg, .read⟩
    | .restore => ⟨device, pageReg, .write (restore.getD 0)⟩
  | .indirect addrReg addr dataReg =>
    match a.phase with
    | .select => ⟨device, addrReg, .write addr⟩
    | .reselect => ⟨device, addrReg, .write addr⟩
    | .main => ⟨device, dataReg, a.mainOp⟩
    | .confirm => ⟨device, dataReg, .read⟩
    | .restore => ⟨device, addrReg, .write addr⟩

/-- The access moved to a phase, or finished. The second component says finished. -/
def Access.goTo (a : Access) (next : Option Phase) : Access × Bool :=
  match next with
  | some q => ({ a with phase := q }, false)
  | none => (a, true)

/-- R36, R37, R86: the access after a frame of it has ended. `wants` says which first-read words call for a confirm
read. -/
def Access.advance (a : Access) (wants : Word → Bool) (res : FrameResult) : Access × Bool :=
  match a.phase, res with
  | .select, _ => a.goTo (some .main)
  | .main, .answered w =>
    if wants w then { a with first := some w }.goTo (some a.loc.confirmPhase)
    else { a with first := some w }.goTo a.loc.restorePhase
  | .main, .noAnswer => { a with failed := true }.goTo a.loc.restorePhase
  | .main, .written => a.goTo a.loc.restorePhase
  | .reselect, _ => a.goTo (some .confirm)
  | .confirm, .answered w => { a with second := some w }.goTo a.loc.restorePhase
  | .confirm, .noAnswer => { a with failed := true }.goTo a.loc.restorePhase
  | .confirm, .written => a.goTo a.loc.restorePhase
  | .restore, _ => (a, true)

/-! ### Handing a frame over (R109, R113) -/

/-- R109, R113: a frame handed to the Bus Channel. It goes without preamble when its profile allows that and the
device address is in the preamble-established set; an IDLE channel becomes BUSY. -/
def Channel.handOver (c : Channel) (f : Frame) (mayOmit : Bool) : Channel :=
  { c with
    frame := some ⟨f, !(mayOmit && c.established.getLsbD f.device.toNat), none⟩
    state := if c.state = .idle then .busy else c.state }

/-! ### Jobs (R53, R84, R85, R90) -/

/-- R38: the fetches of the plan's item entries, in plan order. -/
def Profile.fetchPieces (f : Profile) : List Piece := f.plan.map fun e => ⟨.fetch, e.loc, none⟩

/-- R34, R38: the marker read, when the profile has a marker. -/
def Profile.markerReads (f : Profile) : List Piece :=
  match f.marker with
  | some m => [⟨.markerRead, m.loc, none⟩]
  | none => []

/-- R53, steps 1 and 2. -/
def Profile.identPieces (f : Profile) : List Piece :=
  match f.identity with
  | some (hi, lo) => [⟨.identHigh, .direct hi, none⟩, ⟨.identLow, .direct lo, none⟩]
  | none => []

/-- R53, steps 4 and 5: the setup writes in list order, then the marker write. -/
def Profile.writePieces (f : Profile) : List Piece :=
  f.setup.map (fun w => ⟨.setup, w.loc, some w.value⟩) ++
    match f.marker with
    | some m => [⟨.markerWrite, m.loc, some m.value⟩]
    | none => []

/-- R39: the one read of a presence check. -/
def Profile.presencePieces (f : Profile) : List Piece :=
  match f.identity with
  | some (hi, _) => [⟨.presence, .direct hi, none⟩]
  | none => (f.plan.head?.map fun e => ⟨.presence, e.loc, none⟩).toList

/-- R53, R62, R85: the pieces of a job in order. -/
def Profile.pieces (f : Profile) : DeviceKind → List Piece
  | .probe => f.identPieces ++ f.writePieces ++ f.markerReads ++ f.fetchPieces
  | .presence => f.presencePieces
  | .urgent => f.fetchPieces ++ f.markerReads
  | .regular => f.fetchPieces ++ f.markerReads

/-- R39, R84: the job composed at a grant from the port's binding and profile. `none` when there is nothing to make a
frame of, which no installed profile of a bound port gives (R38, R43). -/
def State.composeJob (s : State) (k : DeviceKind) (p : PortId) : Option Job :=
  match (s.port p).binding with
  | none => none
  | some b =>
    match s.profile b.profile with
    | none => none
    | some f =>
      match f.pieces k with
      | [] => none
      | x :: rest =>
        some { kind := k, port := p, binding := b, profile := f, current := x.kind
               access := .start x.loc x.data, todo := rest, identHigh := none, stale := false }

/-- A job holds the channel and hands over the frame its access stands at. -/
def Channel.runJob (c : Channel) (j : Job) : Channel :=
  { c with held := some (.job j) }.handOver (j.access.frame j.binding.device) j.profile.preamble

/-- R100: a job ends: its outcome goes to the Port Table, and the grant becomes NONE. -/
def State.endJob (s : State) (ch : Chan) (j : Job) (o : JobOutcome) : State :=
  (s.jobOutcome j o).modChan ch fun c => { c with held := none }

/-- The next piece of a job begins, or the job ends with its good outcome. -/
def State.continueJob (s : State) (ch : Chan) (j : Job) : State :=
  match j.todo with
  | [] => s.endJob ch j .good
  | x :: rest =>
    s.modChan ch fun c => c.runJob { j with current := x.kind, access := .start x.loc x.data, todo := rest }

/-- R9, R54: the identity read by a probe attempt is stored. That a stale attempt, and one whose port is no longer
PROBING, stores none is the model's choice (assumption 22). -/
def State.storeIdentity (s : State) (j : Job) (v : Identity) : State :=
  if !j.stale && decide ((s.port j.port).state = .probing) then
    s.modPort j.port fun r => { r with lastIdentity := some v }
  else s

/-- R54: the identity differs from the expected one, the lowest 4 bits left out under the ignore-revision flag. -/
def Binding.mismatch (b : Binding) (v : Identity) : Bool :=
  match b.expected with
  | none => false
  | some e => if b.ignoreRevision then decide (v >>> 4 ≠ e >>> 4) else decide (v ≠ e)

/-- The identity that a low-word read completes. -/
def Job.identity (j : Job) (low : Word) : Identity := j.identHigh.getD 0 ++ low

/-- The fetch result of a job's fetch (R11). -/
def Job.fetchResult (j : Job) (a : Access) : FetchResult :=
  { port := j.port, profile := j.profile, loc := a.loc, cause := if j.kind = .probe then .probe else .scan
    first := a.first.getD 0, second := a.second }

/-- R9, R11, R12, R54: what a piece of a job whose access `a` has made its last frame hands to the Port Table: the fetch
result of an answered fetch, and the identity when its low word is answered. A stale job hands over nothing. -/
def State.pieceResult (s : State) (j : Job) (a : Access) : State :=
  if j.stale || a.failed then s
  else
    match j.current with
    | .identLow => s.storeIdentity j (j.identity (a.first.getD 0))
    | .fetch => s.takeFetch j.kind.needs (j.fetchResult a)
    | _ => s

/-- R53 to R55, R61, R64, R85: the outcome with which a piece that has made its last frame ends its job; `none` when the
job goes on to its next piece. -/
def Job.verdict (j : Job) (a : Access) : Option JobOutcome :=
  if j.stale then some .aborted
  else if a.failed then some .noAnswer
  else
    match j.current with
    | .identLow => if j.binding.mismatch (j.identity (a.first.getD 0)) then some .identity else none
    | .markerRead =>
      if a.first = j.profile.marker.map WriteStep.value then none
      else some (if j.kind = .probe then .setup else .markerMismatch)
    | _ => none

/-- R54: a job keeps the identity's high word for the read of the low word. -/
def Job.kept (j : Job) (a : Access) : Job :=
  match j.current with
  | .identHigh => { j with identHigh := a.first }
  | _ => j

/-- R53, R64, R86, R89: a piece of a job has ended with its access `a`. -/
def State.pieceEnd (s : State) (ch : Chan) (j : Job) (a : Access) : State :=
  let s := s.pieceResult j a
  match j.verdict a with
  | some o => s.endJob ch j o
  | none => s.continueJob ch (j.kept a)

/-- R36, R86: the access of a job after a frame of it has ended; only a fetch makes a confirm read. -/
def Job.advance (j : Job) (res : FrameResult) : Access × Bool :=
  j.access.advance (fun w => decide (j.current = .fetch) && j.profile.wantsConfirm j.access.loc w) res

/-- A frame of a job has ended with a result: the next frame of its access, or the end of the piece. -/
def State.jobFrameEnd (s : State) (ch : Chan) (j : Job) (res : FrameResult) : State :=
  let next := j.advance res
  if next.2 then s.pieceEnd ch j next.1
  else s.modChan ch fun c => c.runJob { j with access := next.1 }

/-! ### Host units (R129 to R136) -/

/-- R130: what a host member does at its turn. -/
inductive Turn where
  | run (m : HostMember)
  | complete (r : HostResult)
deriving DecidableEq, Repr

/-- R130: the binding an ITEM_READ is tied to has ended. -/
def PortRec.bindingEnded (r : PortRec) (binding : Nat) : Bool :=
  r.binding.isNone || decide (r.bindings ≠ binding)

/-- R129, R130: a host member judged at its turn. An ITEM_READ reads the profile of its binding here. -/
def State.judge (s : State) (t : HostTxn) : Turn :=
  match t.op with
  | .rawRead device reg =>
    .run { txn := t, device := device, profile := none, access := .start (.direct reg) none, stale := false }
  | .rawWrite device reg data =>
    .run { txn := t, device := device, profile := none, access := .start (.direct reg) (some data), stale := false }
  | .itemRead p item binding =>
    let r := s.port p
    if r.bindingEnded binding then .complete .portGone
    else if r.state ≠ .active then .complete .badState
    else
      match r.binding with
      | none => .complete .portGone
      | some b =>
        match s.profile b.profile with
        | none => .complete .badState
        | some f =>
          match f.recipes.get item with
          | none => .complete .badState
          | some i =>
            .run { txn := t, device := b.device, profile := some f, access := .start i.loc none, stale := false }

/-- R113: whether a member's frames may go without preamble: an ITEM_READ whose profile has the flag. -/
def HostMember.mayOmit (m : HostMember) : Bool :=
  match m.profile with
  | some f => f.preamble
  | none => false

/-- A host unit holds the channel and hands over the frame its member stands at. -/
def Channel.runHost (c : Channel) (r : HostRun) : Channel :=
  { c with held := some (.host r) }.handOver (r.current.access.frame r.current.device) r.current.mayOmit

/-- R100, R133: a host unit ends: the completion records of its members are placed in member order. -/
def State.endHost (s : State) (ch : Chan) (records : List Completion) : State :=
  { s with ht := { s.ht with completions := s.ht.completions ++ records } }.modChan ch fun c => { c with held := none }

/-- R129, R130: the members to come are judged in order: one that completes without a frame gives its record, and the
first that runs takes the channel; when none is left the unit ends. -/
def State.hostProceed (s : State) (ch : Chan) (done : List Completion) : List HostTxn → State
  | [] => s.endHost ch done
  | t :: rest =>
    match s.judge t with
    | .complete r => s.hostProceed ch (done ++ [⟨t, r, none⟩]) rest
    | .run m => s.modChan ch fun c => c.runHost ⟨done, m, rest⟩

/-- R132: the completion record of a member whose frames have all ended. -/
def HostMember.completion (m : HostMember) (a : Access) : Completion :=
  if a.failed then ⟨m.txn, .noAnswer, none⟩
  else
    match m.txn.op with
    | .rawWrite .. => ⟨m.txn, .ok, none⟩
    | _ => ⟨m.txn, .ok, some (a.first.getD 0)⟩

/-- R135 (b): the profile has an item recipe whose location is DIRECT with the register. -/
def Profile.namesDirect (f : Profile) (reg : BusAddr) : Bool :=
  Item.all.any fun i => decide ((f.recipes.get i).map Recipe.loc = some (.direct reg))

/-- R135: a word read by RAW_READ is offered to the Port Table when it comes from a DIRECT item register of a bound
port. -/
def State.absorbRaw (s : State) (ch : Chan) (device reg : BusAddr) (w : Word) : State :=
  match s.pt.portAt ch device with
  | none => s
  | some p =>
    match (s.port p).binding with
    | none => s
    | some b =>
      match s.profile b.profile with
      | none => s
      | some f =>
        if f.namesDirect reg then
          s.takeFetch .active { port := p, profile := f, loc := .direct reg, cause := .host, first := w, second := none }
        else s

/-- R129, R130, R135, R136: what a member whose frames have all ended hands to the Port Table. -/
def State.absorb (s : State) (ch : Chan) (m : HostMember) (a : Access) : State :=
  if a.failed then s
  else
    match m.txn.op, m.profile with
    | .rawRead device reg, _ => s.absorbRaw ch device reg (a.first.getD 0)
    | .itemRead p _ _, some f =>
      if m.stale then s
      else s.takeFetch .active
        { port := p, profile := f, loc := a.loc, cause := .host, first := a.first.getD 0, second := a.second }
    | _, _ => s

/-- R36: the access of a host member after a frame of it has ended. -/
def HostMember.advance (m : HostMember) (res : FrameResult) : Access × Bool :=
  m.access.advance
    (fun w => match m.profile with
      | some f => f.wantsConfirm m.access.loc w
      | none => false) res

/-- A frame of a host unit has ended with a result: the next frame of its member, or the member's end. -/
def State.hostFrameEnd (s : State) (ch : Chan) (r : HostRun) (res : FrameResult) : State :=
  let m := r.current
  let next := m.advance res
  if next.2 then (s.absorb ch m next.1).hostProceed ch (r.done ++ [m.completion next.1]) r.todo
  else s.modChan ch fun c => c.runHost { r with current := { m with access := next.1 } }

/-! ### Units that a fault or an abort ends (R59, R87, R110, R117) -/

/-- R110, R117: the unit that holds a channel ends without a further frame: a job with the outcome, a host unit with
the result for its member at its turn and every later one. -/
def State.cutUnit (s : State) (ch : Chan) (o : JobOutcome) (res : HostResult) : State :=
  match (s.chan ch).held with
  | none => s
  | some (.job j) => s.endJob ch j o
  | some (.host r) =>
    s.endHost ch (r.done ++ (r.current.txn :: r.todo).map fun t => ⟨t, res, none⟩)

/-- R117: the frame in flight ended in an abort drain, and its unit ends. A job whose piece ends with this frame hands
over that piece's result (R88, R190; assumption 7) and ends ABORTED; a host member whose last frame this was completes
with its result, and the members to come complete ABORTED. -/
def State.abortFrameEnd (s : State) (ch : Chan) (res : FrameResult) : State :=
  match (s.chan ch).held with
  | none => s
  | some (.job j) =>
    let next := j.advance res
    (if next.2 then s.pieceResult j next.1 else s).endJob ch j .aborted
  | some (.host r) =>
    let m := r.current
    let next := m.advance res
    if next.2 then
      (s.absorb ch m next.1).endHost ch
        (r.done ++ m.completion next.1 :: r.todo.map fun t => ⟨t, .aborted, none⟩)
    else s.cutUnit ch .aborted .aborted

/-- R64: the held unit is a stale job whose frame in flight is the first of its piece. -/
def Channel.staleAtPieceStart (c : Channel) : Bool :=
  match c.held with
  | some (.job j) => j.stale && j.access.atStart
  | _ => false

end Sys2Proof.Machine
end

