-- ==== Sys2Proof/Machine/Arbiter.lean ====
section
/-! DEFINITION. Passes and the urgent queue of a Scan Scheduler (Chapter 4), and the decisions of a Channel Arbiter
(Chapter 5). -/
namespace Sys2Proof.Machine

/-! ### Passes (R72 to R78) -/

/-- R72: the pass-interval timer started with the interval in force. -/
def Scheduler.startTimer (c : Scheduler) : Scheduler := { c with passTimer := .running c.passInterval }

/-- R73: a pass starts. -/
def Scheduler.startPass (c : Scheduler) : Scheduler :=
  { c with
    pass := some ⟨c.scanList.toList.take c.scanLength, 0⟩
    pendingExpiry := false
    passTimer := .running c.passInterval }

/-- R75, R77, R88: a pass ended by an abort or a disable. -/
def Scheduler.cutPass (c : Scheduler) : Scheduler := { c with pass := none, pendingExpiry := false }

/-- R77: what a disable does when it takes effect. -/
def Scheduler.disable (c : Scheduler) : Scheduler := { c.cutPass with passTimer := .stopped }

/-- R88: what the end of an abort drain does. -/
def Scheduler.abortEnd (c : Scheduler) : Scheduler :=
  { c.cutPass with
    urgent := []
    passTimer := if c.passTimer = .expired then .running c.passInterval else c.passTimer }

/-- R75: the end of a walk, with the ports that the attention lines add. -/
def Scheduler.endWalk (c : Scheduler) (adds : List PortId) : Scheduler :=
  let c := adds.foldl Scheduler.pushUrgent { c with pass := none }
  if c.pendingExpiry then
    if 0 < c.scanLength then { c.startPass with overrun := true }
    else { c.startTimer with pendingExpiry := false }
  else c

/-- R80, R75: the ports of the lines named, lines in order and the ports of each in port-number order, that are ACTIVE
and bound to the channel. -/
def State.attentionPorts (s : State) (ch : Chan) (lines : BitVec 4) : List PortId :=
  (List.finRange 4).flatMap fun (n : Fin 4) =>
    if lines.getLsbD n then
      allPorts.filter fun p => s.att.sets[n].getLsbD p && (s.port p).activeOn ch
    else []

/-- R75 (b): the ports a pass end adds. -/
def State.passEndPorts (s : State) (ch : Chan) : List PortId := s.attentionPorts ch s.att.levels

/-- R74: the walk over the entries left, from a position: the position it reaches, and the eligible entry there. -/
def State.walkFrom (s : State) (ch : Chan) : List PortId → Nat → Nat × Option PortId
  | [], n => (n, none)
  | p :: rest, n => if (s.port p).activeOn ch then (n, some p) else s.walkFrom ch rest (n + 1)

/-- R74: the walk of the open pass. -/
def State.walk (s : State) (ch : Chan) (c : Scheduler) : Scheduler × Option PortId :=
  match c.pass with
  | none => (c, none)
  | some q =>
    let r := s.walkFrom ch (q.list.drop q.position) q.position
    ({ c with pass := some { q with position := r.1 } }, r.2)

/-- R96: the unit kind of a probe queue member. -/
def ProbeKind.unit : ProbeKind → DeviceKind
  | .probe => .probe
  | .presence => .presence

/-- The work a device side reports. -/
abbrev Source := DeviceKind × PortId

/-- R96 (d): the look after a pass end: urgent queue, then the pass that the end may have started. -/
def State.consultAgain (s : State) (ch : Chan) (c : Scheduler) : Scheduler × Option Source :=
  match c.urgent with
  | p :: _ => (c, some (.urgent, p))
  | [] =>
    match c.pass with
    | none => (c, none)
    | some _ =>
      match s.walk ch c with
      | (c, some p) => (c, some (.regular, p))
      | (c, none) => (c.endWalk (s.passEndPorts ch), none)

/-- R96: the consultation of the Scan Scheduler: the scheduler as it leaves it, and the first source that holds
work. -/
def State.consult (s : State) (ch : Chan) : Scheduler × Option Source :=
  let c := (s.chan ch).sched
  match c.probes with
  | (p, k) :: _ => (c, some (k.unit, p))
  | [] =>
    match c.urgent with
    | p :: _ => (c, some (.urgent, p))
    | [] =>
      match c.pass with
      | none => (c, none)
      | some _ =>
        match s.walk ch c with
        | (c, some p) => (c, some (.regular, p))
        | (c, none) => s.consultAgain ch (c.endWalk (s.passEndPorts ch))

/-- R84: the member or entry taken from its source at the grant. -/
def Scheduler.takeSource (c : Scheduler) : DeviceKind → Scheduler
  | .probe => { c with probes := c.probes.tail }
  | .presence => { c with probes := c.probes.tail }
  | .urgent => { c with urgent := c.urgent.tail }
  | .regular => { c with pass := c.pass.map fun q => { q with position := q.position + 1 } }

/-! ### Decisions (R95 to R99) -/

/-- R84, R98, R99: a device-side unit granted; the counter becomes W. -/
def State.grantDevice (s : State) (ch : Chan) (src : Source) : State :=
  let job := s.composeJob src.1 src.2
  s.modChan ch fun c =>
    let c := { c with sched := c.sched.takeSource src.1, hostTurn := c.hostWeight }
    match job with
    | some j => c.runJob j
    | none => c

/-- R98, R99, R129: the host unit at the head granted; the counter goes down by 1, and stays 0 at 0. -/
def State.grantHost (s : State) (ch : Chan) : State :=
  match (s.chan ch).hostQueue with
  | [] => s
  | u :: rest =>
    (s.modChan ch fun c => { c with hostQueue := rest, hostTurn := c.hostTurn - 1 }).hostProceed ch [] u

/-- R98: the turn rule. The second component says that a host unit was granted. -/
def State.turnRule (s : State) (ch : Chan) (src : Option Source) : State × Bool :=
  let c := s.chan ch
  match src with
  | some x => if c.hostReady && decide (0 < c.hostTurn) then (s.grantHost ch, true) else (s.grantDevice ch x, false)
  | none => if c.hostReady then (s.grantHost ch, true) else (s, false)

/-- R95: the arbiter may decide: the channel is IDLE with no grant, and no SOFT_RESET waits for its drains (R103,
assumption 6). -/
def State.mayDecide (s : State) (ch : Chan) : Bool :=
  decide ((s.chan ch).state = .idle) && (s.chan ch).held.isNone && !s.cu.softResetting

/-- R95 to R99: one decision. -/
def State.decideOnce (s : State) (ch : Chan) : State × Bool :=
  let r := s.consult ch
  (s.modSched ch fun _ => r.1).turnRule ch r.2

/-- R95, R100: decisions until a unit holds the channel or no unit is granted: a host unit that ends at its grant is a
notice of its own. Each such unit leaves the host queue, so `fuel` of one more than the queue's length never runs
out. -/
def State.decideLoop (ch : Chan) : Nat → State → State
  | 0, s => s
  | fuel + 1, s =>
    if s.mayDecide ch then
      let r := s.decideOnce ch
      if r.2 then State.decideLoop ch fuel r.1 else r.1
    else s

/-- R95: a notice of possible work reaches the arbiter of a channel. -/
def State.notice (s : State) (ch : Chan) : State :=
  s.decideLoop ch ((s.chan ch).hostQueue.length + 1)

/-- The notice that an addition to a port's probe queue is (R95). -/
def State.noticeOf (s : State) (b : Option Binding) : State :=
  match b with
  | some b => s.notice b.channel
  | none => s

end Sys2Proof.Machine
end

