-- ==== Sys2Proof/Machine/Resets.lean ====
section
/-! DEFINITION. The resets: power-on / RSTN (R176) and the reset of dynamic state of SOFT_RESET (R190), block by
block. -/
namespace Sys2Proof.Machine

/-- R26, R25: the Port Table after SOFT_RESET: every record at its reset values, the port view empty, the limits and
intervals kept (R68). -/
def PortTable.softReset (t : PortTable) : PortTable :=
  { t with ports := Vector.replicate 24 PortRec.reset, view := none }

/-- R91: a Scan Scheduler after SOFT_RESET. -/
def Scheduler.softReset (c : Scheduler) (enabled : Bool) : Scheduler :=
  { Scheduler.reset with
    passInterval := c.passInterval
    passTimer := if enabled then .running c.passInterval else .stopped }

/-- R91, R103, R122, R138: a channel after SOFT_RESET: divider, enable setting, host weight and pass interval kept. -/
def Channel.softReset (c : Channel) : Channel :=
  { Channel.reset with
    sched := c.sched.softReset c.enabled
    hostWeight := c.hostWeight
    hostTurn := c.hostWeight
    state := if c.enabled then .idle else .off
    enabled := c.enabled
    divider := c.divider
    mdioHigh := c.mdioHigh }

/-- R155: the Event Queue and Notification block after SOFT_RESET: enables, threshold and holdoff kept. -/
def EventBlock.softReset (e : EventBlock) : EventBlock :=
  { EventBlock.reset with threshold := e.threshold, holdoff := e.holdoff, enables := e.enables }

/-- R173: the Indicator Engine after SOFT_RESET: chain length, flash width, half-periods, index, refresh count and
cadence kept; generators restarted. -/
def IndicatorEngine.softReset (e : IndicatorEngine) : IndicatorEngine :=
  { e with
    records := Vector.replicate 48 .reset
    slots := mapVec (fun t => RateSlot.restarted t.half) e.slots
    flash := Vector.replicate 24 .reset }

/-- R190 (b): the reset of dynamic state. The Profile Store (R44), the Timebase (R177) and the Command Unit (R192) keep
theirs; the attention lines take their reset values (R91, R192). -/
def State.dynamicReset (s : State) : State :=
  { s with
    pt := s.pt.softReset
    ch0 := s.ch0.softReset
    ch1 := s.ch1.softReset
    att := .reset
    ht := .reset
    ev := s.ev.softReset
    ie := s.ie.softReset }

/-- R176: power-on / RSTN: every block takes its reset values; `low` is whether RSTN is still low. The waiting commands
are the sender's and are kept. -/
def State.powerOn (s : State) (low : Bool) : State :=
  { State.reset with rstnLow := low, pending := s.pending }

end Sys2Proof.Machine
end

