-- ==== Sys2Proof/Machine/CommandUnit.lean ====
section
/-! DEFINITION. The Command Unit (§10.3): the answers of owners, the result registers, timed commands, and what a write
of the command register or of a checked register does before and after its owner takes it. -/
namespace Sys2Proof.Machine

/-- An owner's answer to a command or a checked write (R183, R187). -/
structure Answer where
  code : ResultCode
  sub : Nat
  item : Option Item
deriving DecidableEq, Repr

/-- DONE. -/
def Answer.done : Answer := ⟨.done, 0, none⟩
/-- IN_PROGRESS: the owner starts a timed command (R184). -/
def Answer.inProgress : Answer := ⟨.inProgress, 0, none⟩
/-- BAD_ARG with a sub-code. -/
def Answer.badArg (sub : Nat) : Answer := ⟨.badArg, sub, none⟩
/-- A refusal without a sub-code (R187: it reads 0). -/
def Answer.refuse (code : ResultCode) : Answer := ⟨code, 0, none⟩

/-- R187: the result register and the result detail register take an answer. -/
def State.showResult (s : State) (source : BitVec 8) (a : Answer) : State :=
  { s with cu := { s.cu with result := ⟨a.code, BitVec.ofNat 8 a.sub, source, a.item⟩ } }

/-- A step of a running part; while RSTN is low the part takes nothing (R176). -/
def State.live (s : State) (f : State → State) : Host.Outcome State Fault Refusal :=
  .next (if s.rstnLow then s else f s)

/-- How an owner takes a command or a checked write: the state it leaves and its answer. -/
abbrev Delivery := State → State × Answer

/-- R183, R185: a write of the command register with `hi` in bits 15 to 8 and `code` in bits 7 to 0. The register reads
back the word; while a timed command is in progress the command is refused with BUSY, else it is delivered and its
answer shown. -/
def State.command (s : State) (hi code : BitVec 8) (deliver : Delivery) : State :=
  let s := { s with cu := { s.cu with command := hi ++ code } }
  if s.cu.timed.isSome then s.showResult code (.refuse .busy)
  else
    let r := deliver s
    r.1.showResult code r.2

/-- R185, R186: a checked write of the register at an address. -/
def State.checkedWrite (s : State) (addr : BitVec 7) (deliver : Delivery) : State :=
  let source := 0x80#8 ||| addr.setWidth 8
  if s.cu.timed.isSome then s.showResult source (.refuse .busy)
  else
    let r := deliver s
    r.1.showResult source r.2

/-! ### Timed commands (R184) -/

/-- R184: a timed command starts, awaiting the drains of the channels named. -/
def State.startTimed (s : State) (code : BitVec 8) (wait0 wait1 : Bool) : State :=
  { s with cu := { s.cu with timed := some ⟨code, wait0, wait1⟩ } }

/-- The drain of a channel no longer awaited. -/
def Timed.ended (t : Timed) (ch : Chan) : Timed :=
  match ch with
  | .ch0 => { t with wait0 := false }
  | .ch1 => { t with wait1 := false }

/-- R184 (a) to (c): the timed command completes with DONE. -/
def CommandUnit.completeTimed (c : CommandUnit) (code : BitVec 8) : CommandUnit :=
  { c with
    timed := none
    lastTimed := some (code, .done)
    result := if c.result.code = .inProgress then { c.result with code := .done } else c.result }

/-- R116, R118 (d), R190 (b): the Command Unit is told that a channel's drain has ended. When it was the last one
awaited the command completes, for SOFT_RESET with the reset of dynamic state in the same claim, after which both
channels' entries into IDLE are notices. -/
def State.drainReport (s : State) (ch : Chan) : State :=
  match s.cu.timed with
  | none => s
  | some t =>
    let t := t.ended ch
    if t.wait0 || t.wait1 then { s with cu := { s.cu with timed := some t } }
    else if t.code = 20#8 then
      let s := s.dynamicReset
      let s := { s with cu := s.cu.completeTimed t.code }
      (s.notice .ch0).notice .ch1
    else { s with cu := s.cu.completeTimed t.code }

end Sys2Proof.Machine
end

