-- ==== Sys2Proof/Machine/Bus.lean ====
section
/-! DEFINITION. The Bus Channel (Chapter 6): the two events of a frame, the ends of drains, the three channel commands,
the configuration writes of a channel group, and the management frame on the wire. -/
namespace Sys2Proof.Machine

/-! ### The frame on the wire (R106 to R108) -/

/-- R106: what the part does with MDIO in one bit time. -/
inductive Drive where
  | one
  | zero
  | released
deriving DecidableEq, Repr

/-- A bit driven. -/
def Drive.of (b : Bool) : Drive := if b then .one else .zero

/-- The bits of a value driven most significant bit first. -/
def driveBits (w n : Nat) : List Drive := (List.range n).map fun k => .of (w.testBit (n - 1 - k))

/-- R106: the operation code of a frame. -/
def FrameOp.opBits : FrameOp → List Drive
  | .read => [.one, .zero]
  | .write _ => [.zero, .one]

/-- R106: turnaround and data: released in a read, driven as 10 and the value in a write. -/
def FrameOp.tail : FrameOp → List Drive
  | .read => List.replicate 18 .released
  | .write w => [.one, .zero] ++ driveBits w.toNat 16

/-- R106, Figure 6-4: the bits of a frame as the part drives or releases them, first bit first. -/
def Frame.wire (f : Frame) (preamble : Bool) : List Drive :=
  (if preamble then List.replicate 32 .one else []) ++ [.zero, .one] ++ f.op.opBits
    ++ driveBits f.device.toNat 5 ++ driveBits f.reg.toNat 5 ++ f.op.tail

/-- R108: REFCLK cycles in the low half, and in the high half, of an MDC period at a divider. -/
def mdcHalfCycles (divider : Nat) : Nat := divider + 1

/-- R106, R108: REFCLK cycles a frame lasts. -/
def frameCycles (f : Frame) (preamble : Bool) (divider : Nat) : Nat :=
  (f.wire preamble).length * (2 * mdcHalfCycles divider)

/-- R107: what the Bus Channel does with MDIOn, bit time by bit time, while its frame is on the lines; `none` between
frames. -/
def Channel.onLines (c : Channel) : Option (List Drive) :=
  match c.frame with
  | some f => if f.rate.isSome then some (f.frame.wire f.preamble) else none
  | none => none

/-- R107: the levels of a management channel's two pins: MDCn, and what the part does with MDIOn. -/
structure BusPins where
  mdc : Bool
  mdio : Drive
deriving DecidableEq, Repr

/-- R107: between frames, and while the channel is OFF or HALTED: MDCn low and MDIOn released. -/
def BusPins.rest : BusPins := ⟨false, .released⟩

/-- R107: the pins in each half bit time of a frame: MDCn low and then high, with MDIOn at the bit through both. -/
def busWave (bits : List Drive) : List BusPins := bits.flatMap fun d => [⟨false, d⟩, ⟨true, d⟩]

/-- R107, R112, R176: the pins of a channel in half bit time `k` counted from the falling edge of MDCn that began the
frame on the lines. With no frame on the lines, after its last bit, and while RSTN is low they are at rest. -/
def State.busPins (s : State) (ch : Chan) (k : Nat) : BusPins :=
  if s.rstnLow then .rest
  else
    match (s.chan ch).onLines with
    | some bits => (busWave bits)[k]?.getD .rest
    | none => .rest

/-- R107, R111: what the part samples of a frame when `line k` is the level of MDIOn at the rising edge of MDCn in bit
time `k`: in a read the second turnaround bit and the 16 data bits, first bit the most significant; nothing in a write.
FRAME_END carries these. -/
def Frame.sampled (f : Frame) (preamble : Bool) (line : Nat → Bool) : Option (Bool × Word) :=
  let start := if preamble then 32 else 0
  match f.op with
  | .write _ => none
  | .read =>
    some (line (start + 15),
      BitVec.ofNat 16 (((List.range 16).map fun k => line (start + 16 + k)).foldl (fun acc b => 2 * acc + bitN b) 0))

/-! ### Ends of drains (R116, R118) -/

/-- R118 (a): the records of the units still queued on a channel, in queue order and member order. -/
def Channel.queuedAborted (c : Channel) : List Completion := c.hostQueue.flatten.map fun t => ⟨t, .aborted, none⟩

/-- R118 (c): the channel state after an abort drain. -/
def ChanState.afterAbort : ChanState → ChanState
  | .off => .off
  | .halted => .halted
  | _ => .idle

/-- R118 (a) to (c): the end of an abort drain. -/
def State.abortDrainEnd (s : State) (ch : Chan) : State :=
  { s with ht := { s.ht with completions := s.ht.completions ++ (s.chan ch).queuedAborted } }.modChan ch fun c =>
    { c with hostQueue := [], chainOpen := false, sched := c.sched.abortEnd, drain := .none, state := c.state.afterAbort }

/-- R116: the end of a disable drain. -/
def State.disableDrainEnd (s : State) (ch : Chan) : State :=
  (s.modChan ch fun c => { c with state := .off, drain := .none, sched := c.sched.disable }).drainReport ch

/-- R100, R116: what follows when a unit of the channel may have ended in this claim: the end of a disable drain, or
the decision that the end of a unit brings. -/
def State.afterUnit (s : State) (ch : Chan) : State :=
  if (s.chan ch).held.isSome then s
  else if (s.chan ch).drain = .disable then s.disableDrainEnd ch
  else s.notice ch

/-! ### FRAME_END (R111, R112, R114) -/

/-- R111: the result of a frame from the samples taken. -/
def Frame.result (f : Frame) (turnaround : Bool) (data : Word) : FrameResult :=
  match f.op with
  | .write _ => .written
  | .read => if turnaround then .noAnswer else .answered data

/-- R114: the preamble-established set at the end of a frame. -/
def establishedAfter (set : BitVec 32) (f : FlyingFrame) (res : FrameResult) : BitVec 32 :=
  let one : BitVec 32 := 1#32 <<< f.frame.device.toNat
  match res with
  | .noAnswer => set &&& ~~~one
  | _ => if f.preamble then set ||| one else set

/-- R112, R114: the frame in flight becomes absent, and a BUSY channel IDLE. -/
def Channel.frameDone (c : Channel) (f : FlyingFrame) (res : FrameResult) : Channel :=
  { c with
    frame := none
    established := establishedAfter c.established f res
    state := if c.state = .busy then .idle else c.state }

/-- R111: the result handed to the unit that holds the channel. -/
def State.unitFrameEnd (s : State) (ch : Chan) (res : FrameResult) : State :=
  match (s.chan ch).held with
  | none => s
  | some (.job j) => s.jobFrameEnd ch j res
  | some (.host r) => s.hostFrameEnd ch r res

/-- R112: a started frame reaches its last bit. In an abort drain the end of the held unit and the end of the drain
(R118) are one claim (assumption 25). -/
def State.frameEnd (s : State) (ch : Chan) (f : FlyingFrame) (turnaround : Bool) (data : Word) : State :=
  let res := f.frame.result turnaround data
  let s := s.modChan ch fun c => c.frameDone f res
  if (s.chan ch).drain = .abort then
    (((s.abortFrameEnd ch res).abortDrainEnd ch).drainReport ch).notice ch
  else (s.unitFrameEnd ch res).afterUnit ch

/-- R112: FRAME_END is taken only when a frame has started on the lines; otherwise nothing happens (assumption 3). -/
def State.takeFrameEnd (s : State) (ch : Chan) (turnaround : Bool) (data : Word) : State :=
  match (s.chan ch).frame with
  | some f => if f.rate.isSome then s.frameEnd ch f turnaround data else s
  | none => s

/-! ### IDLE_LINE_CHECK (R109, R110, R120) -/

/-- R110: the check fails. -/
def State.lineFault (s : State) (ch : Chan) : State :=
  let s := s.modChan ch fun c =>
    { c with frame := none, state := if c.drain = .disable then c.state else .halted }
  let s := s.cutUnit ch .busFault .busFault
  let s := s.post (.channelFault ch)
  let s := { s with ev := { s.ev with chf := true } }
  if (s.chan ch).drain = .disable then s.disableDrainEnd ch else s

/-- R64: a stale job whose next piece has not begun ends without the frame that was waiting (assumption 9). -/
def State.withdrawStale (s : State) (ch : Chan) : State :=
  let s := s.modChan ch fun c => { c with frame := none, state := if c.state = .busy then .idle else c.state }
  (s.cutUnit ch .aborted .aborted).afterUnit ch

/-- R109: the frame starts at the divider in force. -/
def State.startFrame (s : State) (ch : Chan) (f : FlyingFrame) : State :=
  s.modChan ch fun c => { c with frame := some { f with rate := some c.divider } }

/-- R109, R110: the idle-line check of a frame that waits out its gap; with no such frame nothing happens
(assumption 3). -/
def State.takeIdleLineCheck (s : State) (ch : Chan) (mdioHigh : Bool) : State :=
  match (s.chan ch).frame with
  | none => s
  | some f =>
    if f.rate.isSome then s
    else
      let s := s.modChan ch fun c => { c with mdioHigh := mdioHigh }
      if !mdioHigh then s.lineFault ch
      else if (s.chan ch).staleAtPieceStart then s.withdrawStale ch
      else s.startFrame ch f

/-! ### CHANNEL_ENABLE, CHANNEL_ABORT, CHANNEL_RESTART (R115 to R119) -/

/-- R188: the channel that the arguments name, or BAD_ARG for a channel above 1. -/
def State.onNamedChannel (s : State) (f : Chan → State × Answer) : State × Answer :=
  match chanOf s.argChannel with
  | none => (s, .badArg 0)
  | some ch => f ch

/-- R77, R115: an OFF channel enabled. -/
def Channel.turnOn (c : Channel) : Channel := { c with enabled := true, state := .idle, sched := c.sched.startTimer }

/-- R77, R115: a channel without a grant disabled. -/
def Channel.turnOff (c : Channel) : Channel := { c with enabled := false, state := .off, sched := c.sched.disable }

/-- R115: CHANNEL_ENABLE(on). -/
def State.enableOn (s : State) (ch : Chan) : State × Answer :=
  if (s.chan ch).state = .off then ((s.modChan ch Channel.turnOn).notice ch, .done) else (s, .done)

/-- R115: CHANNEL_ENABLE(off). A channel that drains already is not changed: no command reaches it (R185). -/
def State.enableOff (s : State) (ch : Chan) : State × Answer :=
  let c := s.chan ch
  match c.state with
  | .off => (s, .done)
  | .halted => (s.modChan ch Channel.turnOff, .done)
  | .draining => (s, .done)
  | _ =>
    if c.held.isNone && c.frame.isNone then (s.modChan ch Channel.turnOff, .done)
    else
      ((s.modChan ch fun c => { c with enabled := false, state := .draining, drain := .disable }).startTimed 17#8
        (decide (ch = .ch0)) (decide (ch = .ch1)), .inProgress)

/-- R115: CHANNEL_ENABLE as its arguments give it. -/
def takeChannelEnable : Delivery := fun s =>
  s.onNamedChannel fun ch => if s.argOn then s.enableOn ch else s.enableOff ch

/-- R117: an abort drain begins. The second component says that it has ended in the claim that took it, with the
effects of R118 (a) to (c) taken. -/
def State.beginAbort (s : State) (ch : Chan) : State × Bool :=
  match (s.chan ch).frame with
  | some f =>
    if f.rate.isSome then (s.modChan ch fun c => { c with state := .draining, drain := .abort }, false)
    else
      (((s.modChan ch fun c => { c with frame := none }).cutUnit ch .aborted .aborted).abortDrainEnd ch, true)
  | none => ((s.cutUnit ch .aborted .aborted).abortDrainEnd ch, true)

/-- R117, R118: CHANNEL_ABORT of a channel. -/
def State.abortChannel (s : State) (ch : Chan) : State × Answer :=
  let r := s.beginAbort ch
  if r.2 then (r.1.notice ch, .done)
  else (r.1.startTimed 18#8 (decide (ch = .ch0)) (decide (ch = .ch1)), .inProgress)

/-- R117: CHANNEL_ABORT. -/
def takeChannelAbort : Delivery := fun s => s.onNamedChannel s.abortChannel

/-- R119: CHANNEL_RESTART of a channel whose line is sampled at a level. -/
def State.restartChannel (s : State) (mdioHigh : Bool) (ch : Chan) : State × Answer :=
  if (s.chan ch).state ≠ .halted then (s, .refuse .badState)
  else
    let s := s.modChan ch fun c => { c with mdioHigh := mdioHigh }
    if mdioHigh then ((s.modChan ch fun c => { c with state := .idle, established := 0 }).notice ch, .done)
    else (s, .refuse .fault)

/-- R119: CHANNEL_RESTART. -/
def takeChannelRestart (mdioHigh : Bool) : Delivery := fun s => s.onNamedChannel (s.restartChannel mdioHigh)

/-! ### SOFT_RESET (R190) -/

/-- R190: SOFT_RESET. Both channels begin their drains; when both end in this claim the reset of dynamic state is taken
here and the command is not timed (R184, R192). -/
def takeSoftReset : Delivery := fun s =>
  let r0 := (s.startTimed 20#8 true true).beginAbort .ch0
  let r1 := r0.1.beginAbort .ch1
  if r0.2 && r1.2 then
    let s := r1.1.dynamicReset
    let s := { s with cu := { s.cu with timed := none } }
    ((s.notice .ch0).notice .ch1, .done)
  else (r1.1.startTimed 20#8 (!r0.2) (!r1.2), .inProgress)

/-! ### Writes of a channel group (R72, R76, R102, R108) -/

/-- R108: the divider. -/
def State.takeDivider (s : State) (ch : Chan) (v : Word) : State × Answer :=
  if 3 ≤ v.toNat ∧ v.toNat ≤ 63 then (s.modChan ch fun c => { c with divider := v.toNat }, .done)
  else (s, .badArg 0)

/-- R72: the pass interval. -/
def State.takePassInterval (s : State) (ch : Chan) (v : Word) : State × Answer :=
  if v.toNat = 0 then (s, .badArg 0)
  else (s.modSched ch fun c => { c with passInterval := v.toNat }, .done)

/-- R102: the host weight, which lowers the host-turn counter to itself. -/
def State.takeHostWeight (s : State) (ch : Chan) (v : Word) : State × Answer :=
  if 1 ≤ v.toNat ∧ v.toNat ≤ 4 then
    (s.modChan ch fun c => { c with hostWeight := v.toNat, hostTurn := min c.hostTurn v.toNat }, .done)
  else (s, .badArg 0)

/-- R76: a 1 in bit 4 clears the overrun flag; the other bits are ignored. -/
def State.takeChannelStatus (s : State) (ch : Chan) (v : Word) : State :=
  if bit v 4 then s.modSched ch fun c => { c with overrun := false } else s

/-- The address of word `n` of a channel's group (R178). -/
def channelAddress (ch : Chan) (n : Nat) : BitVec 7 := BitVec.ofNat 7 (0x50 + 8 * chanNumber ch + n)

end Sys2Proof.Machine
end

