-- ==== Sys2Proof/Machine/PortCommands.lean ====
section
/-! DEFINITION. The commands of the Port Table and of the Command Unit itself (R22, R24, R48 to R52, R188), the limits
and intervals (R66, R67, R191), and the two per-port timer expiries (R58, R62). -/
namespace Sys2Proof.Machine

/-- R1, R188: the port that the arguments name, or BAD_ARG for a port number above 23. -/
def State.onNamedPort (s : State) (f : PortId → State × Answer) : State × Answer :=
  match finOf 24 s.argTarget with
  | none => (s, .badArg 0)
  | some p => f p

/-! ### BIND, UNBIND, SUSPEND, RESUME, RETRY -/

/-- R26, R48 (e): what BIND does to the record. -/
def PortRec.bind (r : PortRec) (b : Binding) : PortRec :=
  { PortRec.reset with
    binding := some b, stickyDown := true, resync := r.resync, bindings := r.bindings + 1 }

/-- R26, R49: what UNBIND does to the record. -/
def PortRec.unbind (r : PortRec) : PortRec :=
  { PortRec.reset with resync := r.resync, bindings := r.bindings }

/-- R48 (a): the arguments of BIND when they are in range: the port and the binding. -/
def State.bindArgs (s : State) : Option (PortId × Binding) :=
  match finOf 24 s.argTarget, chanOf s.argChannel, finOf 32 s.argDevice, finOf 8 s.argRegister with
  | some p, some ch, some dev, some prof =>
    some (p,
      { channel := ch, device := BitVec.ofFin dev, profile := prof
        expected := if s.argIdentityPresent then some s.argIdentity else none
        ignoreRevision := s.argIgnoreRevision })
  | _, _, _, _ => none

/-- R48: BIND. -/
def takeBind : Delivery := fun s =>
  match s.bindArgs with
  | none => (s, .badArg 0)
  | some (p, b) =>
    if (s.port p).bound then (s, .refuse .badState)
    else if (s.profile b.profile).isNone then (s, .badArg 11)
    else if (s.pt.portAt b.channel b.device).isSome then (s, .refuse .conflict)
    else ((s.transition p .probing (some .host) fun r => r.bind b).notice b.channel, .done)

/-- R49: UNBIND. -/
def takeUnbind : Delivery := fun s =>
  s.onNamedPort fun p =>
    if !(s.port p).bound then (s, .refuse .badState)
    else (s.transition p .unbound (some .host) PortRec.unbind, .done)

/-- R50: the states SUSPEND is taken in. -/
def PortState.suspendable : PortState → Bool
  | .probing => true
  | .active => true
  | .lost => true
  | _ => false

/-- R50: SUSPEND. -/
def takeSuspend : Delivery := fun s =>
  s.onNamedPort fun p =>
    if !(s.port p).state.suspendable then (s, .refuse .badState)
    else (s.transition p .suspended (some .host) id, .done)

/-- R51, R52: a port returned to PROBING with its attempt count at 0. -/
def State.reprobe (s : State) (p : PortId) (reason : Reason) : State :=
  (s.transition p .probing (some reason) fun r => { r with attemptCount := 0 }).noticeOf (s.port p).binding

/-- R51: RESUME. -/
def takeResume : Delivery := fun s =>
  s.onNamedPort fun p =>
    if (s.port p).state ≠ .suspended then (s, .refuse .badState) else (s.reprobe p .resumed, .done)

/-- R52: RETRY. -/
def takeRetry : Delivery := fun s =>
  s.onNamedPort fun p =>
    if (s.port p).state ≠ .failed then (s, .refuse .badState) else (s.reprobe p .retry, .done)

/-! ### ACK and SNAPSHOT -/

/-- R22: the changed flags after an ACK that names some items. -/
def clearNamed (changed : PerItem Bool) (names : Item → Bool) : PerItem Bool :=
  ⟨changed.link && !names .link, changed.neg && !names .neg, changed.speed && !names .speed,
    changed.duplex && !names .duplex, changed.rfault && !names .rfault, changed.partner && !names .partner,
    changed.energy && !names .energy, changed.count && !names .count⟩

/-- R22: the record after an ACK. -/
def PortRec.ack (r : PortRec) (names : Item → Bool) (clearCount : Bool) : PortRec :=
  { r with
    changed := clearNamed r.changed names
    stickyDown := r.stickyDown && !(names .link && decide (r.mirror.link = some (.flag true)))
    stickyFault := r.stickyFault && !(names .rfault && decide (r.mirror.rfault = some (.flag false)))
    accumulator := if clearCount then 0 else r.accumulator
    saturated := r.saturated && !clearCount }

/-- R22: ACK. -/
def takeAck : Delivery := fun s =>
  s.onNamedPort fun p =>
    if !(s.port p).bound then (s, .refuse .badState)
    else (s.modPort p fun r => r.ack s.argNames s.argClearCount, .done)

/-- R24: SNAPSHOT of a port: the copy is made, then RESYNC is cleared. -/
def State.snapshot (s : State) (p : PortId) : State :=
  { s with pt := { s.pt with view := some ⟨p, s.stamp, s.port p⟩ } }.modPort p fun r => { r with resync := false }

/-- R24: SNAPSHOT. -/
def takeSnapshot : Delivery := fun s => s.onNamedPort fun p => (s.snapshot p, .done)

/-! ### Limits and intervals (R66, R67, R191) -/

/-- R66: a value of a limit's range. -/
def limitInRange (v : Word) : Bool := decide (1 ≤ v.toNat) && decide (v.toNat ≤ 15)

/-- R66: the miss limit. -/
def takeMissLimit (v : Word) : Delivery := fun s =>
  if !limitInRange v then (s, .badArg 0)
  else if allPorts.any fun p => decide (v.toNat < (s.port p).missCount) then (s, .refuse .badState)
  else ({ s with pt := { s.pt with missLimit := v.toNat } }, .done)

/-- R66: the probe attempt limit. -/
def takeAttemptLimit (v : Word) : Delivery := fun s =>
  if !limitInRange v then (s, .badArg 0)
  else if allPorts.any fun p => decide (v.toNat < (s.port p).attemptCount) then (s, .refuse .badState)
  else ({ s with pt := { s.pt with attemptLimit := v.toNat } }, .done)

/-- R67: the probe-retry interval. -/
def takeRetryInterval (v : Word) : Delivery := fun s =>
  if v.toNat = 0 then (s, .badArg 0) else ({ s with pt := { s.pt with retryInterval := v.toNat } }, .done)

/-- R67: the lost-check interval. -/
def takeLostInterval (v : Word) : Delivery := fun s =>
  if v.toNat = 0 then (s, .badArg 0) else ({ s with pt := { s.pt with lostInterval := v.toNat } }, .done)

/-! ### Timer expiries (R58, R62) -/

/-- R58: the probe-retry timer of a port expires. -/
def State.probeRetryExpiry (s : State) (p : PortId) : State :=
  if timerDue (s.port p).probeRetry then
    let s := (s.modPort p fun r => { r with probeRetry := none }).markStale p
    (s.schedOf (s.port p).binding fun c => c.pushProbe p .probe).noticeOf (s.port p).binding
  else s

/-- R62: the lost-check timer of a port expires. -/
def State.lostCheckExpiry (s : State) (p : PortId) : State :=
  if timerDue (s.port p).lostCheck then
    let s := (s.modPort p fun r => { r with lostCheck := none }).markStale p
    (s.schedOf (s.port p).binding fun c => c.pushProbe p .presence).noticeOf (s.port p).binding
  else s

/-! ### The rows -/

/-- NOP (R188). -/
def execNop (hi : BitVec 8) (s : State) : Host.Outcome State Fault Refusal :=
  s.live fun s => s.command hi 0#8 fun s => (s, .done)

/-- BIND (R48). -/
def execBind (hi : BitVec 8) (s : State) : Host.Outcome State Fault Refusal :=
  s.live fun s => s.command hi 1#8 takeBind

/-- UNBIND (R49). -/
def execUnbind (hi : BitVec 8) (s : State) : Host.Outcome State Fault Refusal :=
  s.live fun s => s.command hi 2#8 takeUnbind

/-- SUSPEND (R50). -/
def execSuspend (hi : BitVec 8) (s : State) : Host.Outcome State Fault Refusal :=
  s.live fun s => s.command hi 3#8 takeSuspend

/-- RESUME (R51). -/
def execResume (hi : BitVec 8) (s : State) : Host.Outcome State Fault Refusal :=
  s.live fun s => s.command hi 4#8 takeResume

/-- RETRY (R52). -/
def execRetry (hi : BitVec 8) (s : State) : Host.Outcome State Fault Refusal :=
  s.live fun s => s.command hi 5#8 takeRetry

/-- ACK (R22). -/
def execAck (hi : BitVec 8) (s : State) : Host.Outcome State Fault Refusal :=
  s.live fun s => s.command hi 6#8 takeAck

/-- SNAPSHOT (R24). -/
def execSnapshot (hi : BitVec 8) (s : State) : Host.Outcome State Fault Refusal :=
  s.live fun s => s.command hi 7#8 takeSnapshot

/-- WRITE_MISS_LIMIT (R66). -/
def execWriteMissLimit (v : Word) (s : State) : Host.Outcome State Fault Refusal :=
  s.live fun s => s.checkedWrite 0x18#7 (takeMissLimit v)

/-- WRITE_PROBE_ATTEMPT_LIMIT (R66). -/
def execWriteProbeAttemptLimit (v : Word) (s : State) : Host.Outcome State Fault Refusal :=
  s.live fun s => s.checkedWrite 0x19#7 (takeAttemptLimit v)

/-- WRITE_PROBE_RETRY_INTERVAL (R67). -/
def execWriteProbeRetryInterval (v : Word) (s : State) : Host.Outcome State Fault Refusal :=
  s.live fun s => s.checkedWrite 0x1A#7 (takeRetryInterval v)

/-- WRITE_LOST_CHECK_INTERVAL (R67). -/
def execWriteLostCheckInterval (v : Word) (s : State) : Host.Outcome State Fault Refusal :=
  s.live fun s => s.checkedWrite 0x1B#7 (takeLostInterval v)

/-- PROBE_RETRY_EXPIRY (R58). -/
def execProbeRetryExpiry (p : PortId) (s : State) : Host.Outcome State Fault Refusal :=
  s.live fun s => s.probeRetryExpiry p

/-- LOST_CHECK_EXPIRY (R62). -/
def execLostCheckExpiry (p : PortId) (s : State) : Host.Outcome State Fault Refusal :=
  s.live fun s => s.lostCheckExpiry p

end Sys2Proof.Machine
end

