-- ==== Sys2Proof/Machine/ChannelCommands.lean ====
section
/-! DEFINITION. The rows of the Scan Scheduler, the Channel Arbiter and the Bus Channel: scan lists (R70, R71), the
channel commands (R115 to R119), SOFT_RESET (R190), the writes of a channel group (R72, R76, R102, R108), the
pass-interval expiry (R72) and the two events of a frame (R109, R112). -/
namespace Sys2Proof.Machine

/-- R70: SET_SCAN_ENTRY. -/
def takeSetScanEntry : Delivery := fun s =>
  match chanOf s.argChannel, finOf 32 s.argIndex, finOf 24 s.argTarget with
  | some ch, some i, some p => (s.modSched ch fun c => { c with scanList := c.scanList.set i p }, .done)
  | _, _, _ => (s, .badArg 0)

/-- R71: SET_SCAN_LENGTH. -/
def takeSetScanLength : Delivery := fun s =>
  match chanOf s.argChannel with
  | none => (s, .badArg 0)
  | some ch =>
    if s.argIndex ≤ 32 then (s.modSched ch fun c => { c with scanLength := s.argIndex }, .done) else (s, .badArg 0)

/-- R72: the pass-interval timer of a channel expires; when it is not due nothing happens (assumption 3). -/
def State.passIntervalExpiry (s : State) (ch : Chan) : State :=
  let c := s.chan ch
  if c.sched.passTimer = .running 0 then
    if c.sched.pass.isSome then s.modSched ch fun c => { c with pendingExpiry := true, passTimer := .expired }
    else if c.state = .halted || decide (c.sched.scanLength = 0) then s.modSched ch Scheduler.startTimer
    else (s.modSched ch Scheduler.startPass).notice ch
  else s

/-- SET_SCAN_ENTRY (R70). -/
def execSetScanEntry (hi : BitVec 8) (s : State) : Host.Outcome State Fault Refusal :=
  s.live fun s => s.command hi 8#8 takeSetScanEntry

/-- SET_SCAN_LENGTH (R71). -/
def execSetScanLength (hi : BitVec 8) (s : State) : Host.Outcome State Fault Refusal :=
  s.live fun s => s.command hi 9#8 takeSetScanLength

/-- CHANNEL_ENABLE_ON (R115): code 17; bit 11 of argument word 5 says on (assumption 4). -/
def execChannelEnableOn (hi : BitVec 8) (s : State) : Host.Outcome State Fault Refusal :=
  s.live fun s => s.command hi 17#8 takeChannelEnable

/-- CHANNEL_ENABLE_OFF (R115): code 17; bit 11 of argument word 5 says off (assumption 4). -/
def execChannelEnableOff (hi : BitVec 8) (s : State) : Host.Outcome State Fault Refusal :=
  s.live fun s => s.command hi 17#8 takeChannelEnable

/-- CHANNEL_ABORT (R117). -/
def execChannelAbort (hi : BitVec 8) (s : State) : Host.Outcome State Fault Refusal :=
  s.live fun s => s.command hi 18#8 takeChannelAbort

/-- CHANNEL_RESTART (R119), with the level of the named channel's MDIO at the moment it is taken. -/
def execChannelRestart (hi : BitVec 8) (mdioHigh : Bool) (s : State) : Host.Outcome State Fault Refusal :=
  s.live fun s => s.command hi 19#8 (takeChannelRestart mdioHigh)

/-- SOFT_RESET (R190). -/
def execSoftReset (hi : BitVec 8) (s : State) : Host.Outcome State Fault Refusal :=
  s.live fun s => s.command hi 20#8 takeSoftReset

/-- WRITE_DIVIDER (R108). -/
def execWriteDivider (ch : Chan) (v : Word) (s : State) : Host.Outcome State Fault Refusal :=
  s.live fun s => s.checkedWrite (channelAddress ch 0) fun s => s.takeDivider ch v

/-- WRITE_PASS_INTERVAL (R72). -/
def execWritePassInterval (ch : Chan) (v : Word) (s : State) : Host.Outcome State Fault Refusal :=
  s.live fun s => s.checkedWrite (channelAddress ch 1) fun s => s.takePassInterval ch v

/-- WRITE_HOST_WEIGHT (R102). -/
def execWriteHostWeight (ch : Chan) (v : Word) (s : State) : Host.Outcome State Fault Refusal :=
  s.live fun s => s.checkedWrite (channelAddress ch 2) fun s => s.takeHostWeight ch v

/-- WRITE_CHANNEL_STATUS (R76). -/
def execWriteChannelStatus (ch : Chan) (v : Word) (s : State) : Host.Outcome State Fault Refusal :=
  s.live fun s => s.takeChannelStatus ch v

/-- PASS_INTERVAL_EXPIRY (R72). -/
def execPassIntervalExpiry (ch : Chan) (s : State) : Host.Outcome State Fault Refusal :=
  s.live fun s => s.passIntervalExpiry ch

/-- IDLE_LINE_CHECK (R109). -/
def execIdleLineCheck (ch : Chan) (mdioHigh : Bool) (s : State) : Host.Outcome State Fault Refusal :=
  s.live fun s => s.takeIdleLineCheck ch mdioHigh

/-- FRAME_END (R112). -/
def execFrameEnd (ch : Chan) (turnaround : Bool) (data : Word) (s : State) : Host.Outcome State Fault Refusal :=
  s.live fun s => s.takeFrameEnd ch turnaround data

end Sys2Proof.Machine
end

