-- ==== Sys2Proof/Machine/HostCommands.lean ====
section
/-! DEFINITION. The rows of the Profile Store, the Host Transaction Unit and the Event Queue: PROFILE_LOAD (R41), POST
(R125, R127), TAKE_COMPLETION (R134), POP_EVENT (R146), the staging words (R181), the notification group (R151, R153,
R154) and the holdoff expiry (R150). -/
namespace Sys2Proof.Machine

/-! ### PROFILE_LOAD -/

/-- R41: PROFILE_LOAD. -/
def takeProfileLoad : Delivery := fun s =>
  match finOf 8 s.argTarget with
  | none => (s, .badArg 0)
  | some n =>
    if s.pt.profileInUse n then (s, .refuse .inUse)
    else
      match s.ps.staging.check with
      | some (sub, item) => (s, ⟨.badArg, sub, item⟩)
      | none => ({ s with ps := { s.ps with profiles := s.ps.profiles.set n (some s.ps.staging.install) } }, .done)

/-! ### POST -/

/-- R127: the host queue with a transaction appended to its last unit. -/
def appendToLast : List (List HostTxn) → HostTxn → List (List HostTxn)
  | [], t => [[t]]
  | [u], t => [u ++ [t]]
  | u :: rest, t => u :: appendToLast rest t

/-- R127: an accepted transaction placed in the host queue of its channel. -/
def Channel.place (c : Channel) (t : HostTxn) (more : Bool) : Channel :=
  { c with
    hostQueue := if c.chainOpen then appendToLast c.hostQueue t else c.hostQueue ++ [[t]]
    chainOpen := more }

/-- The members of the unit at the tail of the host queue. -/
def Channel.tailMembers (c : Channel) : Nat := (c.hostQueue.getLast?.map List.length).getD 0

/-- R125 (d) to (g): a transaction whose channel is known is offered. -/
def State.offer (s : State) (t : HostTxn) (more : Bool) : State × Answer :=
  let c := s.chan t.channel
  if c.chainOpen && more && decide (3 ≤ c.tailMembers) then (s, .badArg 13)
  else if !c.chainOpen && decide (Config.hostQueueCapacity ≤ c.hostQueue.length) then (s, .refuse .full)
  else if Config.maxOutstanding ≤ s.ht.outstanding then (s, .refuse .full)
  else
    let s := s.modChan t.channel fun c => c.place t more
    let s := { s with ht := { s.ht with outstanding := s.ht.outstanding + 1 } }
    (s.notice t.channel, .done)

/-- R125 (a): the addresses of a RAW transaction when channel, device address and register are in range. -/
def State.rawArgs (s : State) : Option (Chan × BusAddr × BusAddr) :=
  match chanOf s.argChannel, finOf 32 s.argDevice, finOf 32 s.argRegister with
  | some ch, some dev, some reg => some (ch, BitVec.ofFin dev, BitVec.ofFin reg)
  | _, _, _ => none

/-- R125: POST of RAW_READ. -/
def State.postRawRead (s : State) : State × Answer :=
  match s.rawArgs with
  | none => (s, .badArg 0)
  | some (ch, dev, reg) => s.offer ⟨ch, s.argTag, .rawRead dev reg⟩ s.argContinue

/-- R125: POST of RAW_WRITE. -/
def State.postRawWrite (s : State) : State × Answer :=
  match s.rawArgs with
  | none => (s, .badArg 0)
  | some (ch, dev, reg) => s.offer ⟨ch, s.argTag, .rawWrite dev reg (s.arg 2)⟩ s.argContinue

/-- R125 (c): the profile of a binding has a recipe for the item. -/
def State.hasRecipe (s : State) (b : Binding) (i : Item) : Bool :=
  match s.profile b.profile with
  | some f => (f.recipes.get i).isSome
  | none => false

/-- R125: POST of ITEM_READ. -/
def State.postItemRead (s : State) : State × Answer :=
  match finOf 24 s.argTarget, itemOf s.argItem with
  | some p, some i =>
    match (s.port p).binding with
    | none => (s, .refuse .badState)
    | some b =>
      if !s.hasRecipe b i then (s, .badArg 12)
      else s.offer ⟨b.channel, s.argTag, .itemRead p i (s.port p).bindings⟩ s.argContinue
  | _, _ => (s, .badArg 0)

/-- R125, R189: POST, its kind read from argument word 4; kind 3 is refused. -/
def takePost : Delivery := fun s =>
  match s.argKind with
  | 0 => s.postRawRead
  | 1 => s.postRawWrite
  | 2 => s.postItemRead
  | _ => (s, .badArg 0)

/-- R134: TAKE_COMPLETION. -/
def takeTakeCompletion : Delivery := fun s =>
  match s.ht.completions with
  | [] => (s, .refuse .empty)
  | r :: rest =>
    ({ s with ht := { completions := rest, outstanding := s.ht.outstanding - 1, view := some r } }, .done)

/-! ### Event queue and notification -/

/-- R145, R146, R150: the head record popped into the event view. -/
def EventBlock.pop (e : EventBlock) (r : EventRec) (rest : List EventRec) : EventBlock :=
  { e with
    queue := rest
    view := some ⟨r, rest.length, e.overflow⟩
    overflow := e.overflow && !rest.isEmpty
    timer := if rest.isEmpty then .stopped else e.timer }

/-- R146: POP_EVENT. -/
def takePopEvent : Delivery := fun s =>
  match s.ev.queue with
  | [] => (s, .refuse .empty)
  | r :: rest => ({ s with ev := s.ev.pop r rest }, .done)

/-- R153: a write of the interrupt cause group. -/
def EventBlock.clearCauses (e : EventBlock) (v : Word) : EventBlock :=
  { e with ovf := e.ovf && !bit v 2, chf := e.chf && !bit v 3 }

/-- R154: a write of the interrupt enable group. -/
def EventBlock.setEnables (e : EventBlock) (v : Word) : EventBlock :=
  { e with enables := ⟨bit v 0, bit v 1, bit v 2, bit v 3⟩ }

/-- R151: the event threshold. -/
def takeThreshold (v : Word) : Delivery := fun s =>
  if 1 ≤ v.toNat ∧ v.toNat ≤ 64 then ({ s with ev := { s.ev with threshold := v.toNat } }, .done)
  else (s, .badArg 0)

/-- R151: the holdoff; every value is accepted. -/
def takeHoldoff (v : Word) : Delivery := fun s => ({ s with ev := { s.ev with holdoff := v.toNat } }, .done)

/-- R150: the holdoff timer expires; when it is not due nothing happens (assumption 3). -/
def EventBlock.expire (e : EventBlock) : EventBlock :=
  if e.timer = .running 0 then { e with timer := .expired } else e

/-! ### The rows -/

/-- PROFILE_LOAD (R41). -/
def execProfileLoad (hi : BitVec 8) (s : State) : Host.Outcome State Fault Refusal :=
  s.live fun s => s.command hi 10#8 takeProfileLoad

/-- POST_RAW_READ (R125): code 11; argument word 4 gives the kind (assumption 4). -/
def execPostRawRead (hi : BitVec 8) (s : State) : Host.Outcome State Fault Refusal :=
  s.live fun s => s.command hi 11#8 takePost

/-- POST_RAW_WRITE (R125): code 11; argument word 4 gives the kind (assumption 4). -/
def execPostRawWrite (hi : BitVec 8) (s : State) : Host.Outcome State Fault Refusal :=
  s.live fun s => s.command hi 11#8 takePost

/-- POST_ITEM_READ (R125): code 11; argument word 4 gives the kind (assumption 4). -/
def execPostItemRead (hi : BitVec 8) (s : State) : Host.Outcome State Fault Refusal :=
  s.live fun s => s.command hi 11#8 takePost

/-- TAKE_COMPLETION (R134). -/
def execTakeCompletion (hi : BitVec 8) (s : State) : Host.Outcome State Fault Refusal :=
  s.live fun s => s.command hi 12#8 takeTakeCompletion

/-- POP_EVENT (R146). -/
def execPopEvent (hi : BitVec 8) (s : State) : Host.Outcome State Fault Refusal :=
  s.live fun s => s.command hi 13#8 takePopEvent

/-- WRITE_INTERRUPT_CAUSES (R153). -/
def execWriteInterruptCauses (v : Word) (s : State) : Host.Outcome State Fault Refusal :=
  s.live fun s => { s with ev := s.ev.clearCauses v }

/-- WRITE_INTERRUPT_ENABLES (R154). -/
def execWriteInterruptEnables (v : Word) (s : State) : Host.Outcome State Fault Refusal :=
  s.live fun s => { s with ev := s.ev.setEnables v }

/-- WRITE_EVENT_THRESHOLD (R151). -/
def execWriteEventThreshold (v : Word) (s : State) : Host.Outcome State Fault Refusal :=
  s.live fun s => s.checkedWrite 0x0A#7 (takeThreshold v)

/-- WRITE_HOLDOFF (R151). -/
def execWriteHoldoff (v : Word) (s : State) : Host.Outcome State Fault Refusal :=
  s.live fun s => s.checkedWrite 0x0B#7 (takeHoldoff v)

/-- WRITE_STAGING_INDEX (R181). -/
def execWriteStagingIndex (v : Word) (s : State) : Host.Outcome State Fault Refusal :=
  s.live fun s => { s with ps := s.ps.writeIndex v }

/-- WRITE_STAGING_PART (R181). -/
def execWriteStagingPart (n : Fin 4) (v : Word) (s : State) : Host.Outcome State Fault Refusal :=
  s.live fun s => { s with ps := s.ps.writePart n v }

/-- HOLDOFF_EXPIRY (R150). -/
def execHoldoffExpiry (s : State) : Host.Outcome State Fault Refusal :=
  s.live fun s => { s with ev := s.ev.expire }

end Sys2Proof.Machine
end

