-- ==== Sys2Proof/Machine/Indicators.lean ====
section
/-! DEFINITION. The Indicator Engine (Chapter 9): conditions, patterns and refresh, rate slots, flash machines,
overrides, and the indicator group of the window. -/
namespace Sys2Proof.Machine

/-! ### Conditions and patterns (R159 to R161) -/

/-- R159: a port's state is a member of a state set; UNBOUND never is. -/
def StateSet.mem (t : StateSet) : PortState → Bool
  | .unbound => false
  | .probing => t.probing
  | .active => t.active
  | .lost => t.lost
  | .suspended => t.suspended
  | .failed => t.failed

/-- R159: a condition of a bound port's record. -/
def IndicatorRec.portCondition (i : IndicatorRec) (r : PortRec) : Bool :=
  match i.condition with
  | .linkUp => decide (r.mirror.link = some (.flag true))
  | .linkStickyDown => r.stickyDown
  | .speedIs => decide (r.mirror.speed = some (.speed i.speed))
  | .fullDuplex => decide (r.mirror.duplex = some (.flag true))
  | .negPending => decide (r.mirror.neg = some (.flag false))
  | .rfaultSticky => r.stickyFault
  | .energy => decide (r.mirror.energy = some (.flag true))
  | .portStateIn => i.states.mem r.state
  | _ => false

/-- R159: the condition of a record as the refresh judges it. -/
def State.judged (s : State) (i : IndicatorRec) : Bool :=
  match i.condition with
  | .none => false
  | .always => true
  | .channelHalted => decide ((s.chan i.channel).state = .halted)
  | .eventsPending => !s.ev.queue.isEmpty
  | _ => (s.port i.port).bound && i.portCondition (s.port i.port)

/-- R160: the pattern an indicator follows. -/
def State.followed (s : State) (i : IndicatorRec) : Pattern :=
  match i.override with
  | some o => o.pattern
  | none => if s.judged i then i.whenTrue else i.whenFalse

/-- R161: whether a pattern is lit. -/
def IndicatorEngine.lit (e : IndicatorEngine) (p : Pattern) (port : PortId) : Bool :=
  match p.kind with
  | .off => false
  | .on => true
  | .blinkA => e.slots[p.slot].phaseOn
  | .blinkB => !e.slots[p.slot].phaseOn
  | .flash => decide (e.flash[port].phase = .pulse)
  | .onFlashOff => decide (e.flash[port].phase ≠ .pulse)

/-- R160: the level output for an indicator: its active level when lit, the other when dark. -/
def State.level (s : State) (i : IndicatorRec) : Bool :=
  let lit := s.ie.lit (s.followed i) i.port
  if i.activeHigh then lit else !lit

/-- R169: the levels of indicators 0 to N − 1. -/
def State.levels (s : State) : List Bool := (s.ie.records.toList.take s.ie.chainLength).map s.level

/-- R169: the refresh, when the fifth tick has made it due. -/
def State.refresh (s : State) : State :=
  if s.ie.refreshDue then { s with ie := { s.ie with refreshDue := false, shifted := s.levels } } else s

/-! ### The chain on the wire (R171) -/

/-- The levels of LSCK, LSDO and LLAT. -/
structure ChainPins where
  lsck : Bool
  lsdo : Bool
  llat : Bool
deriving DecidableEq, Repr

/-- R171: the bits of a refresh in the order they are sent, highest index first. -/
def chainBits (levels : List Bool) : List Bool := levels.reverse

/-- R171, Figure 9-7: the pins in each half µs of the shift of some levels: per bit LSCK low then high with LSDO at
the bit; then LLAT high for 1 µs with LSCK low and LSDO unchanged; then all low. -/
def chainWave (levels : List Bool) : List ChainPins :=
  let last := (chainBits levels).getLastD false
  (chainBits levels).flatMap (fun b => [⟨false, b, false⟩, ⟨true, b, false⟩])
    ++ [⟨false, last, true⟩, ⟨false, last, true⟩, ⟨false, false, false⟩]

/-- R171, R172: between shifts LSCK, LSDO and LLAT are low. -/
def ChainPins.rest : ChainPins := ⟨false, false, false⟩

/-- R171, R172, R176: the pins of the chain in half µs `k` counted from the start of the last refresh's shift. Before the
first refresh, after the shift, and while RSTN is low they are low, and no LLAT pulse is made. -/
def State.chainPins (s : State) (k : Nat) : ChainPins :=
  if s.rstnLow || s.ie.shifted.isEmpty then .rest else (chainWave s.ie.shifted)[k]?.getD .rest

/-! ### Rate slots and flash machines (R162 to R165) -/

/-- R163: SET_RATE, DEFERRED. -/
def RateSlot.defer (t : RateSlot) (steps : Nat) : RateSlot := { t with pending := some steps }

/-- R162: the phase timer of a slot expires. -/
def RateSlot.toggle (t : RateSlot) : RateSlot :=
  let half := t.pending.getD t.half
  { half := half, pending := none, phaseOn := !t.phaseOn, timer := 10 * half }

/-- R162: the expiry of a slot's phase timer, when it is due. -/
def RateSlot.expire (t : RateSlot) : RateSlot := if t.timer = 0 then t.toggle else t

/-- R165: a pulse or gap timer expires, when it is due. -/
def FlashMachine.expire (m : FlashMachine) (width : Nat) : FlashMachine :=
  if m.timer ≠ 0 then m
  else
    match m.phase with
    | .idle => m
    | .pulse => { m with phase := .gap, timer := 10 * width }
    | .gap =>
      if m.pending then { phase := .pulse, timer := 10 * width, pending := false }
      else { phase := .idle, timer := 0, pending := false }

/-- A record of the engine changed. -/
def IndicatorEngine.modRecord (e : IndicatorEngine) (i : IndicatorId) (f : IndicatorRec → IndicatorRec) :
    IndicatorEngine :=
  { e with records := e.records.set i (f e.records[i]) }

/-- A rate slot of the engine changed. -/
def IndicatorEngine.modSlot (e : IndicatorEngine) (n : Fin 4) (f : RateSlot → RateSlot) : IndicatorEngine :=
  { e with slots := e.slots.set n (f e.slots[n]) }

/-- A flash machine of the engine changed. -/
def IndicatorEngine.modFlash (e : IndicatorEngine) (p : PortId) (f : FlashMachine → FlashMachine) : IndicatorEngine :=
  { e with flash := e.flash.set p (f e.flash[p]) }

/-! ### Commands (R163, R164, R167, R168) -/

/-- R163, R164, R189: SET_RATE, its mode read from argument word 5; modes 2 and 3 are refused. -/
def takeSetRate : Delivery := fun s =>
  match finOf 4 s.argTarget with
  | none => (s, .badArg 0)
  | some n =>
    let steps := (s.arg 2).toNat
    if 1 ≤ steps ∧ steps ≤ 255 then
      match s.argMode with
      | 0 => ({ s with ie := s.ie.modSlot n fun t => t.defer steps }, .done)
      | 1 => ({ s with ie := s.ie.modSlot n fun _ => .restarted steps }, .done)
      | _ => (s, .badArg 0)
    else (s, .badArg 0)

/-- R167: the override that the seconds give a pattern. -/
def Override.of (p : Pattern) (seconds : Nat) : Override :=
  { pattern := p, timer := if seconds = 0 then none else some (1000 * seconds) }

/-- R167: OVERRIDE. -/
def takeOverride : Delivery := fun s =>
  match finOf 48 s.argTarget, patternOf s.argPattern with
  | some i, some k =>
    ({ s with ie := s.ie.modRecord i fun r =>
        { r with override := some (.of ⟨k, s.argSlot⟩ (s.arg 2).toNat) } }, .done)
  | _, _ => (s, .badArg 0)

/-- R168: CANCEL_OVERRIDE. -/
def takeCancelOverride : Delivery := fun s =>
  match finOf 48 s.argTarget with
  | none => (s, .badArg 0)
  | some i =>
    if s.ie.records[i].override.isNone then (s, .refuse .empty)
    else ({ s with ie := s.ie.modRecord i fun r => { r with override := none } }, .done)

/-- R168: the timer of an override expires, when it is due. -/
def IndicatorRec.overrideExpire (r : IndicatorRec) : IndicatorRec :=
  match r.override with
  | some o => if timerDue o.timer then { r with override := none } else r
  | none => r

/-! ### The indicator group (R158, R166, R170, Figure 10-6) -/

/-- R158: the indicator index. -/
def takeIndicatorIndex (v : Word) : Delivery := fun s =>
  match finOf 48 v.toNat with
  | none => (s, .badArg 0)
  | some i => ({ s with ie := { s.ie with index := i } }, .done)

/-- R181: the state set of word 62H; `none` when it names UNBOUND. -/
def stateSetOf (v : Word) : Option StateSet :=
  if bit v 2 then none else some ⟨bit v 3, bit v 4, bit v 5, bit v 6, bit v 7⟩

/-- R181: the pattern and slot of word 63H whose pattern code stands at bit `low`. -/
def patternField (v : Word) (low : Nat) : Option Pattern :=
  (patternOf (bits v low 3)).map fun k => ⟨k, ⟨bits v (low + 3) 2, Nat.mod_lt _ (by decide)⟩⟩

/-- R158, R181: a word of an indicator record written; `none` when a field of it is outside its range. Bits without a
field in Figure 10-6 are ignored (assumption 24). -/
def IndicatorRec.writeWord (r : IndicatorRec) (n : Fin 3) (v : Word) : Option IndicatorRec :=
  match n with
  | 0 =>
    match conditionOf (bits v 0 4), finOf 24 (bits v 4 5) with
    | some c, some p => some { r with condition := c, port := p, activeHigh := !bit v 9 }
    | _, _ => none
  | 1 =>
    (stateSetOf v).map fun t =>
      { r with speed := speedOf (bits v 0 2), states := t, channel := if bit v 8 then .ch1 else .ch0 }
  | 2 =>
    match patternField v 0, patternField v 8 with
    | some a, some b => some { r with whenTrue := a, whenFalse := b }
    | _, _ => none

/-- R158: a write of an indicator record word. -/
def takeIndicatorRecord (n : Fin 3) (v : Word) : Delivery := fun s =>
  match s.ie.records[s.ie.index].writeWord n v with
  | none => (s, .badArg 0)
  | some r => ({ s with ie := { s.ie with records := s.ie.records.set s.ie.index r } }, .done)

/-- R170: the chain length. -/
def takeChainLength (v : Word) : Delivery := fun s =>
  if v.toNat % 8 = 0 ∧ 8 ≤ v.toNat ∧ v.toNat ≤ 48 then
    ({ s with ie := { s.ie with chainLength := v.toNat } }, .done)
  else (s, .badArg 0)

/-- R166: the flash width. -/
def takeFlashWidth (v : Word) : Delivery := fun s =>
  if 1 ≤ v.toNat ∧ v.toNat ≤ 25 then ({ s with ie := { s.ie with flashWidth := v.toNat } }, .done)
  else (s, .badArg 0)

/-! ### The rows -/

/-- OVERRIDE (R167). -/
def execOverride (hi : BitVec 8) (s : State) : Host.Outcome State Fault Refusal :=
  s.live fun s => s.command hi 14#8 takeOverride

/-- CANCEL_OVERRIDE (R168). -/
def execCancelOverride (hi : BitVec 8) (s : State) : Host.Outcome State Fault Refusal :=
  s.live fun s => s.command hi 15#8 takeCancelOverride

/-- SET_RATE_DEFERRED (R163): code 16; argument word 5 gives the mode (assumption 4). -/
def execSetRateDeferred (hi : BitVec 8) (s : State) : Host.Outcome State Fault Refusal :=
  s.live fun s => s.command hi 16#8 takeSetRate

/-- SET_RATE_IMMEDIATE (R164): code 16; argument word 5 gives the mode (assumption 4). -/
def execSetRateImmediate (hi : BitVec 8) (s : State) : Host.Outcome State Fault Refusal :=
  s.live fun s => s.command hi 16#8 takeSetRate

/-- WRITE_INDICATOR_INDEX (R158). -/
def execWriteIndicatorIndex (v : Word) (s : State) : Host.Outcome State Fault Refusal :=
  s.live fun s => s.checkedWrite 0x60#7 (takeIndicatorIndex v)

/-- WRITE_INDICATOR_RECORD (R158). -/
def execWriteIndicatorRecord (n : Fin 3) (v : Word) (s : State) : Host.Outcome State Fault Refusal :=
  s.live fun s => s.checkedWrite (BitVec.ofNat 7 (0x61 + n.val)) (takeIndicatorRecord n v)

/-- WRITE_CHAIN_LENGTH (R170). -/
def execWriteChainLength (v : Word) (s : State) : Host.Outcome State Fault Refusal :=
  s.live fun s => s.checkedWrite 0x66#7 (takeChainLength v)

/-- WRITE_FLASH_WIDTH (R166). -/
def execWriteFlashWidth (v : Word) (s : State) : Host.Outcome State Fault Refusal :=
  s.live fun s => s.checkedWrite 0x67#7 (takeFlashWidth v)

/-- INDICATOR_REFRESH (R169). -/
def execIndicatorRefresh (s : State) : Host.Outcome State Fault Refusal :=
  s.live fun s => s.refresh

/-- RATE_PHASE_EXPIRY (R162). -/
def execRatePhaseExpiry (n : Fin 4) (s : State) : Host.Outcome State Fault Refusal :=
  s.live fun s => { s with ie := s.ie.modSlot n RateSlot.expire }

/-- FLASH_PHASE_EXPIRY (R165). -/
def execFlashPhaseExpiry (p : PortId) (s : State) : Host.Outcome State Fault Refusal :=
  s.live fun s => { s with ie := s.ie.modFlash p fun m => m.expire s.ie.flashWidth }

/-- OVERRIDE_EXPIRY (R168). -/
def execOverrideExpiry (i : IndicatorId) (s : State) : Host.Outcome State Fault Refusal :=
  s.live fun s => { s with ie := s.ie.modRecord i IndicatorRec.overrideExpire }

end Sys2Proof.Machine
end

