-- ==== Sys2Proof/Machine/Timebase.lean ====
section
/-! DEFINITION. The Timebase tick (R177) with what every timed block does at it (R67, R72, R80, R150, R162, R165, R167,
R169), the attention group (R79, R178), and the rows of RSTN (R176). -/
namespace Sys2Proof.Machine

/-! ### The tick -/

/-- R58, R62, R67: the timers of a port at a tick. -/
def PortRec.tick (r : PortRec) : PortRec :=
  { r with probeRetry := tickTimer r.probeRetry, lostCheck := tickTimer r.lostCheck }

/-- R72: the pass-interval timer at a tick. -/
def PassTimer.tick : PassTimer → PassTimer
  | .running n => .running (n - 1)
  | t => t

/-- R72: a scheduler's timer at a tick. -/
def Scheduler.tick (c : Scheduler) : Scheduler := { c with passTimer := c.passTimer.tick }

/-- R150: the holdoff timer at a tick. -/
def HoldoffTimer.tick : HoldoffTimer → HoldoffTimer
  | .running n => .running (n - 1)
  | t => t

/-- R167: an override's timer at a tick. -/
def IndicatorRec.tick (r : IndicatorRec) : IndicatorRec :=
  { r with override := r.override.map fun o => { o with timer := tickTimer o.timer } }

/-- R162: a slot's phase timer at a tick. -/
def RateSlot.tick (t : RateSlot) : RateSlot := { t with timer := t.timer - 1 }

/-- R165: a flash machine's phase timer at a tick. -/
def FlashMachine.tick (m : FlashMachine) : FlashMachine := { m with timer := m.timer - 1 }

/-- R169: the refresh count at a tick; the fifth tick makes a refresh due. -/
def IndicatorEngine.countRefresh (e : IndicatorEngine) : IndicatorEngine :=
  if Config.refreshTicks ≤ e.refreshCount + 1 then { e with refreshCount := 0, refreshDue := true }
  else { e with refreshCount := e.refreshCount + 1 }

/-- The Indicator Engine at a tick. -/
def IndicatorEngine.tick (e : IndicatorEngine) : IndicatorEngine :=
  { e with
    records := mapVec IndicatorRec.tick e.records
    slots := mapVec RateSlot.tick e.slots
    flash := mapVec FlashMachine.tick e.flash }.countRefresh

/-- R177: the stamp and every timer of the part at a tick. -/
def State.tickTimers (s : State) : State :=
  { s with
    stamp := s.stamp + 1
    pt := { s.pt with ports := mapVec PortRec.tick s.pt.ports }
    ch0 := { s.ch0 with sched := s.ch0.sched.tick }
    ch1 := { s.ch1 with sched := s.ch1.sched.tick }
    ev := { s.ev with timer := s.ev.timer.tick }
    ie := s.ie.tick }

/-! ### Attention lines (R79, R80) -/

/-- R80: the ports that the lines newly active add to a channel's urgent queue. -/
def State.sample (s : State) (ch : Chan) (newly : BitVec 4) : State :=
  s.modSched ch fun c => (s.attentionPorts ch newly).foldl Scheduler.pushUrgent c

/-- R95: an addition to an urgent queue is a notice. -/
def State.noticeIfGrown (s : State) (before : State) (ch : Chan) : State :=
  if (before.chan ch).sched.urgent.length < (s.chan ch).sched.urgent.length then s.notice ch else s

/-- R80: both schedulers sample the four lines, whose pins are at the levels `atn`, and store the samples; CH0's arbiter
takes its notice before CH1's (assumption 12). -/
def State.sampleAttention (s : State) (atn : BitVec 4) : State :=
  let active := ~~~atn
  let newly := active &&& ~~~s.att.levels
  let t := (s.sample .ch0 newly).sample .ch1 newly
  let t := { t with att := { t.att with levels := active } }
  (t.noticeIfGrown s .ch0).noticeIfGrown s .ch1

/-- R177, R80: a tick of the Timebase. -/
def State.tick (s : State) (atn : BitVec 4) : State := s.tickTimers.sampleAttention atn

/-- R178: the low word of an attention set is held. -/
def Attention.writeLow (t : Attention) (v : Word) : Attention := { t with holding := v }

/-- R79, R178: the high word replaces the line's set whole. -/
def Attention.writeHigh (t : Attention) (line : Fin 4) (v : Word) : Attention :=
  { t with sets := t.sets.set line (v.extractLsb' 0 8 ++ t.holding) }

/-! ### The rows -/

/-- TIMEBASE_TICK (R177). -/
def execTimebaseTick (atn : BitVec 4) (s : State) : Host.Outcome State Fault Refusal :=
  s.live fun s => s.tick atn

/-- WRITE_ATTENTION_LOW (R178); the holding word serves every line. -/
def execWriteAttentionLow (_line : Fin 4) (v : Word) (s : State) : Host.Outcome State Fault Refusal :=
  s.live fun s => { s with att := s.att.writeLow v }

/-- WRITE_ATTENTION_HIGH (R79, R178). -/
def execWriteAttentionHigh (line : Fin 4) (v : Word) (s : State) : Host.Outcome State Fault Refusal :=
  s.live fun s => { s with att := s.att.writeHigh line v }

/-- RESET_ASSERT (R176, R112, R138, R172): every block is held at its reset values, a frame on the lines is cut and its
unit gives no completion. -/
def execResetAssert (s : State) : Host.Outcome State Fault Refusal := .next (s.powerOn true)

/-- RESET_RELEASE (R176): every block takes its reset values and the Timebase starts from stamp 0. -/
def execResetRelease (s : State) : Host.Outcome State Fault Refusal := .next (s.powerOn false)

end Sys2Proof.Machine
end

