-- ==== Sys2Proof/Machine/Window.lean ====
section
/-! DEFINITION. The register window (§10.2): what a read of each address shows (R175, R178 to R181, R187), what a
written word does at each address, and the rows REGISTER_WRITE (R175) and UNKNOWN_COMMAND (R183). A read changes no
state (R175), so it is a function of the state and no row. -/
namespace Sys2Proof.Machine

/-! ### Global status (R179, Figure 10-3) -/

/-- 02H. -/
def State.statusWord (s : State) : Word :=
  let code := match s.cu.timed with
    | some t => t.code.toNat
    | none => (s.cu.lastTimed.map fun l => l.1.toNat).getD 0
  word [(bitN s.cu.timed.isSome, 0), (code, 1), ((s.cu.lastTimed.map fun l => l.2.code).getD 0, 6),
    (bitN s.ev.overflow, 10)]

/-- 03H. -/
def State.hostWord (s : State) : Word :=
  word [(s.ht.outstanding, 0), (s.ch0.hostQueue.length, 5), (s.ch1.hostQueue.length, 9), (bitN s.ch0.chainOpen, 13),
    (bitN s.ch1.chainOpen, 14)]

/-- R27: the installed set, one bit per profile, the bit of profile `n` at place `n` (assumption 23). -/
def ProfileStore.installedBits (t : ProfileStore) : Nat :=
  (List.finRange 8).foldl (fun acc n => acc + bitN t.profiles[n].isSome * 2 ^ n.val) 0

/-- 04H. -/
def State.queueWord (s : State) : Word := word [(s.ev.queue.length, 0), (s.ps.installedBits, 8)]

/-- 08H (R148). That bits 15 to 4 read 0 is the model's choice (assumption 24). -/
def State.causeWord (s : State) : Word :=
  word [(bitN s.ev.evq, 0), (bitN s.ht.cmpl, 1), (bitN s.ev.ovf, 2), (bitN s.ev.chf, 3)]

/-- 09H (R154). That bits 15 to 4 read 0 is the model's choice (assumption 24). -/
def Enables.word (e : Enables) : Word :=
  Machine.word [(bitN e.evq, 0), (bitN e.cmpl, 1), (bitN e.ovf, 2), (bitN e.chf, 3)]

/-- 13H (R187). -/
def ResultReg.word (r : ResultReg) : Word := Machine.word [(r.code.code, 0), (r.sub.toNat, 4)]

/-- 14H (R187). That the bits of the item read 0 when none is named is the model's choice (assumption 26). -/
def ResultReg.detail (r : ResultReg) : Word :=
  Machine.word [(r.source.toNat, 0), ((r.item.map Item.index).getD 0, 8), (bitN r.item.isSome, 12)]

/-! ### Views (R180, Figures 10-4 and 10-5) -/

/-- A one-bit mirror value as word 2AH shows it: 1 for its asserted value. -/
def flagShown (v : Option ItemValue) : Nat := bitN (decide (v = some (.flag true)))

/-- The speed code as word 2AH shows it. -/
def speedShown : Option ItemValue → Nat
  | some (.speed c) => c.code
  | _ => 0

/-- 22H: the binding. -/
def bindingWord : Option Binding → Word
  | none => 0
  | some b => word [(1, 0), (chanNumber b.channel, 1), (b.device.toNat, 2), (b.profile.val, 7),
      (bitN b.expected.isSome, 10), (bitN b.ignoreRevision, 11)]

/-- The expected identity that a record shows; absent reads 0. -/
def expectedShown (b : Option Binding) : Identity := (b.bind Binding.expected).getD 0

/-- 20H to 2FH: a word of a filled port view. -/
def PortView.word (v : PortView) (n : Nat) : Word :=
  let r := v.record
  match n with
  | 0 => Machine.word [(v.port.val, 0), (r.state.code, 5), (reasonCode r.reason, 8), (bitN r.resync, 14), (1, 15)]
  | 1 => v.stamp
  | 2 => bindingWord r.binding
  | 3 => highWord (expectedShown r.binding)
  | 4 => lowWord (expectedShown r.binding)
  | 5 => Machine.word [(r.missCount, 0), (r.attemptCount, 4), (bitN r.stickyDown, 8), (bitN r.stickyFault, 9),
      (bitN r.saturated, 10), (bitN r.lastIdentity.isSome, 11), (bitN r.lastGood.isSome, 12)]
  | 6 => highWord (r.lastIdentity.getD 0)
  | 7 => lowWord (r.lastIdentity.getD 0)
  | 8 => r.lastGood.getD 0
  | 9 => Machine.word [(itemBits fun i => (r.mirror.get i).isSome, 0), (itemBits fun i => r.changed.get i, 8)]
  | 10 => Machine.word [(flagShown r.mirror.link, 0), (flagShown r.mirror.neg, 1), (flagShown r.mirror.duplex, 2),
      (flagShown r.mirror.rfault, 3), (flagShown r.mirror.energy, 4), (speedShown r.mirror.speed, 5)]
  | 11 => shownValue r.mirror.partner
  | 12 => shownValue r.mirror.count
  | 13 => highWord r.accumulator
  | 14 => lowWord r.accumulator
  | _ => 0

/-- 30H: port or channel. -/
def EventBody.subject : EventBody → Nat
  | .itemChange p _ _ _ _ => p.val
  | .stateChange p _ _ _ => p.val
  | .channelFault c => chanNumber c

/-- 30H: the item of an ITEM_CHANGE, else 0. -/
def EventBody.itemShown : EventBody → Nat
  | .itemChange _ i _ _ _ => i.index
  | _ => 0

/-- 30H: the kind. -/
def EventBody.kindCode : EventBody → Nat
  | .itemChange .. => 0
  | .stateChange .. => 1
  | .channelFault _ => 2

/-- 31H: old value, old state, or the fault STUCK_LOW. -/
def EventBody.oldShown : EventBody → Word
  | .itemChange _ _ o _ _ => shownValue o
  | .stateChange _ o _ _ => BitVec.ofNat 16 o.code
  | .channelFault _ => 1

/-- 32H: new value or new state; 0 for CHANNEL_FAULT. -/
def EventBody.newShown : EventBody → Word
  | .itemChange _ _ _ n _ => shownValue n
  | .stateChange _ _ n _ => BitVec.ofNat 16 n.code
  | .channelFault _ => 0

/-- 33H: old present. -/
def EventBody.oldPresent : EventBody → Bool
  | .itemChange _ _ o _ _ => o.isSome
  | _ => true

/-- 33H: new present. -/
def EventBody.newPresent : EventBody → Bool
  | .itemChange _ _ _ n _ => n.isSome
  | .stateChange .. => true
  | .channelFault _ => false

/-- 33H: cause or reason; 0 for CHANNEL_FAULT. -/
def EventBody.whyCode : EventBody → Nat
  | .itemChange _ _ _ _ c => c.code
  | .stateChange _ _ _ r => reasonCode r
  | .channelFault _ => 0

/-- 30H to 37H: a word of a filled event view. -/
def EventView.word (v : EventView) (n : Nat) : Word :=
  let b := v.record.body
  match n with
  | 0 => Machine.word [(b.subject, 0), (b.itemShown, 8), (b.kindCode, 12), (bitN v.overflow, 14), (1, 15)]
  | 1 => b.oldShown
  | 2 => b.newShown
  | 3 => Machine.word [(bitN b.oldPresent, 0), (bitN b.newPresent, 1), (b.whyCode, 2), (v.record.repeats, 8)]
  | 4 => v.record.firstStamp
  | 5 => v.record.lastStamp
  | 6 => Machine.word [(v.remaining, 0)]
  | _ => 0

/-- R180: the code of a transaction's kind. -/
def HostOp.kindCode : HostOp → Nat
  | .rawRead .. => 0
  | .rawWrite .. => 1
  | .itemRead .. => 2

/-- 39H: what names the place of a completion. -/
def HostTxn.placeWord (t : HostTxn) : Word :=
  match t.op with
  | .rawRead d r => word [(chanNumber t.channel, 0), (d.toNat, 1), (r.toNat, 6)]
  | .rawWrite d r _ => word [(chanNumber t.channel, 0), (d.toNat, 1), (r.toNat, 6)]
  | .itemRead p i _ => word [(chanNumber t.channel, 0), (p.val, 1), (i.index, 11)]

/-- 38H to 3BH: a word of a filled completion view. -/
def Completion.word (c : Completion) (n : Nat) : Word :=
  match n with
  | 0 => Machine.word [(c.txn.tag.toNat, 0), (c.result.code, 8), (c.txn.op.kindCode, 12), (bitN c.data.isSome, 14),
      (1, 15)]
  | 1 => c.txn.placeWord
  | 2 => c.data.getD 0
  | _ => 0

/-- R180: a view whose valid flag is clear reads 0 in every word. -/
def viewWord {α : Type} (v : Option α) (f : α → Word) : Word := (v.map f).getD 0

/-! ### Channel group (R121, Figure 10-6) -/

/-- The kind of the current grant in word +3. -/
def Grant.code : Grant → Nat
  | .none => 0
  | .device .probe _ => 1
  | .device .presence _ => 2
  | .device .urgent _ => 3
  | .device .regular _ => 4
  | .host => 5

/-- The grant port in word +3. That it reads 0 when the grant names no port is the model's choice (assumption 26). -/
def Grant.portShown : Grant → Nat
  | .device _ p => p.val
  | _ => 0

/-- Word +3. -/
def Channel.statusWord (c : Channel) : Word :=
  word [(c.state.code, 0), (bitN c.enabled, 3), (bitN c.sched.overrun, 4), (c.grant.code, 5), (c.grant.portShown, 8),
    (c.hostTurn, 13)]

/-- Words +0 to +5 of a channel's group. -/
def Channel.word (c : Channel) (n : Nat) : Word :=
  match n with
  | 0 => BitVec.ofNat 16 c.divider
  | 1 => BitVec.ofNat 16 c.sched.passInterval
  | 2 => BitVec.ofNat 16 c.hostWeight
  | 3 => c.statusWord
  | 4 => lowWord c.established
  | 5 => highWord c.established
  | _ => 0

/-! ### Indicator group (R158, Figure 10-6) -/

/-- A state set as word 62H shows it. -/
def StateSet.bits (t : StateSet) : Nat :=
  bitN t.probing * 2 + bitN t.active * 4 + bitN t.lost * 8 + bitN t.suspended * 16 + bitN t.failed * 32

/-- 61H to 63H; bits without a field read 0 (assumption 24). -/
def IndicatorRec.word (r : IndicatorRec) (n : Nat) : Word :=
  match n with
  | 0 => Machine.word [(r.condition.code, 0), (r.port.val, 4), (bitN (!r.activeHigh), 9)]
  | 1 => Machine.word [(r.speed.code, 0), (r.states.bits, 2), (chanNumber r.channel, 8)]
  | 2 => Machine.word [(r.whenTrue.kind.code, 0), (r.whenTrue.slot.val, 3), (r.whenFalse.kind.code, 8),
      (r.whenFalse.slot.val, 11)]
  | _ => 0

/-- R158: 64H. That the pattern, slot and expiry bits read 0 without an override is the model's choice
(assumption 26). -/
def overrideWord : Option Override → Word
  | none => 0
  | some o => word [(1, 0), (o.pattern.kind.code, 1), (o.pattern.slot.val, 4), (bitN o.timer.isSome, 6)]

/-- R158: 65H: the time remaining in whole seconds, rounded up. That an absent override or expiry reads 0 is the model's
choice (assumption 26). -/
def overrideSeconds (o : Option Override) : Word :=
  BitVec.ofNat 16 ((((o.bind Override.timer).getD 0) + 999) / 1000)

/-- Words of a rate slot (Figure 10-6). That the bits of an absent pending half-period read 0 is the model's choice
(assumption 26). -/
def RateSlot.word (t : RateSlot) (n : Nat) : Word :=
  match n with
  | 0 => Machine.word [(t.half, 0), (bitN t.phaseOn, 15)]
  | _ => Machine.word [(t.pending.getD 0, 0), (bitN t.pending.isSome, 15)]

/-! ### Attention group (R178) -/

/-- 48H + n: a word of the attention port sets in force. That bits 15 to 8 of a high word read 0 is the model's choice
(assumption 24). -/
def Attention.word (t : Attention) (n : Nat) : Word :=
  let set : BitVec 24 := t.sets[n / 2 % 4]'(by omega)
  if n % 2 = 0 then set.extractLsb' 0 16 else (set.extractLsb' 16 8).setWidth 16

/-! ### Reads (R175, R178) -/

/-- R175, R178: what a read of an address shows; an undefined address reads 0000H. -/
def State.readWord (s : State) (addr : BitVec 7) : Word :=
  let n := addr.toNat
  if n = 0x00 then Config.partCode
  else if n = 0x01 then Config.revision
  else if n = 0x02 then s.statusWord
  else if n = 0x03 then s.hostWord
  else if n = 0x04 then s.queueWord
  else if n = 0x05 then s.stamp
  else if n = 0x06 then BitVec.ofNat 16 s.ht.completions.length
  else if n = 0x07 then s.att.levels.setWidth 16
  else if n = 0x08 then s.causeWord
  else if n = 0x09 then s.ev.enables.word
  else if n = 0x0A then BitVec.ofNat 16 s.ev.threshold
  else if n = 0x0B then BitVec.ofNat 16 s.ev.holdoff
  else if 0x0C ≤ n ∧ n ≤ 0x11 then s.cu.args[(n - 0x0C) % 6]'(by omega)
  else if n = 0x12 then s.cu.command
  else if n = 0x13 then s.cu.result.word
  else if n = 0x14 then s.cu.result.detail
  else if n = 0x18 then BitVec.ofNat 16 s.pt.missLimit
  else if n = 0x19 then BitVec.ofNat 16 s.pt.attemptLimit
  else if n = 0x1A then BitVec.ofNat 16 s.pt.retryInterval
  else if n = 0x1B then BitVec.ofNat 16 s.pt.lostInterval
  else if 0x20 ≤ n ∧ n ≤ 0x2F then viewWord s.pt.view fun v => v.word (n - 0x20)
  else if 0x30 ≤ n ∧ n ≤ 0x37 then viewWord s.ev.view fun v => v.word (n - 0x30)
  else if 0x38 ≤ n ∧ n ≤ 0x3B then viewWord s.ht.view fun v => v.word (n - 0x38)
  else if n = 0x40 then BitVec.ofNat 16 s.ps.stagingIndex
  else if h : 0x41 ≤ n ∧ n ≤ 0x44 then s.ps.staging.read (stagingPart s.ps.stagingIndex) ⟨n - 0x41, by omega⟩
  else if 0x48 ≤ n ∧ n ≤ 0x4F then s.att.word (n - 0x48)
  else if 0x50 ≤ n ∧ n ≤ 0x55 then s.ch0.word (n - 0x50)
  else if 0x58 ≤ n ∧ n ≤ 0x5D then s.ch1.word (n - 0x58)
  else if n = 0x60 then BitVec.ofNat 16 s.ie.index.val
  else if 0x61 ≤ n ∧ n ≤ 0x63 then s.ie.records[s.ie.index].word (n - 0x61)
  else if n = 0x64 then overrideWord s.ie.records[s.ie.index].override
  else if n = 0x65 then overrideSeconds s.ie.records[s.ie.index].override
  else if n = 0x66 then BitVec.ofNat 16 s.ie.chainLength
  else if n = 0x67 then BitVec.ofNat 16 s.ie.flashWidth
  else if 0x68 ≤ n ∧ n ≤ 0x6F then (s.ie.slots[(n - 0x68) / 2 % 4]'(by omega)).word ((n - 0x68) % 2)
  else 0

/-! ### Writes (R175, R178, R183, R186) -/

/-- R183, R188: the owner of a command code, as it takes the command; a code above 20 is refused with sub-code 14.
CHANNEL_RESTART written here samples MDIO at the level the part last sampled (assumption 10). -/
def commandOwner (code : BitVec 8) : Delivery :=
  match code.toNat with
  | 0 => fun s => (s, .done)
  | 1 => takeBind
  | 2 => takeUnbind
  | 3 => takeSuspend
  | 4 => takeResume
  | 5 => takeRetry
  | 6 => takeAck
  | 7 => takeSnapshot
  | 8 => takeSetScanEntry
  | 9 => takeSetScanLength
  | 10 => takeProfileLoad
  | 11 => takePost
  | 12 => takeTakeCompletion
  | 13 => takePopEvent
  | 14 => takeOverride
  | 15 => takeCancelOverride
  | 16 => takeSetRate
  | 17 => takeChannelEnable
  | 18 => takeChannelAbort
  | 19 => fun s => s.onNamedChannel fun ch => s.restartChannel (s.chan ch).mdioHigh ch
  | 20 => takeSoftReset
  | _ => fun s => (s, .badArg 14)

/-- R182: an argument word stored. -/
def State.setArg (s : State) (n : Fin 6) (v : Word) : State :=
  { s with cu := { s.cu with args := s.cu.args.set n v } }

/-- R121, R178: a word of a channel's group written. -/
def State.writeChannelWord (s : State) (ch : Chan) (n : Nat) (v : Word) : State :=
  match n with
  | 0 => s.checkedWrite (channelAddress ch 0) fun s => s.takeDivider ch v
  | 1 => s.checkedWrite (channelAddress ch 1) fun s => s.takePassInterval ch v
  | 2 => s.checkedWrite (channelAddress ch 2) fun s => s.takeHostWeight ch v
  | 3 => s.takeChannelStatus ch v
  | _ => s

/-- R175, R178: a word written at an address: each group's owner takes it; a write of a read-only register or of an
undefined address is ignored. -/
def State.writeWord (s : State) (addr : BitVec 7) (v : Word) : State :=
  let n := addr.toNat
  if n = 0x08 then { s with ev := s.ev.clearCauses v }
  else if n = 0x09 then { s with ev := s.ev.setEnables v }
  else if n = 0x0A then s.checkedWrite 0x0A#7 (takeThreshold v)
  else if n = 0x0B then s.checkedWrite 0x0B#7 (takeHoldoff v)
  else if h : 0x0C ≤ n ∧ n ≤ 0x11 then s.setArg ⟨n - 0x0C, by omega⟩ v
  else if n = 0x12 then s.command (v.extractLsb' 8 8) (v.extractLsb' 0 8) (commandOwner (v.extractLsb' 0 8))
  else if n = 0x18 then s.checkedWrite 0x18#7 (takeMissLimit v)
  else if n = 0x19 then s.checkedWrite 0x19#7 (takeAttemptLimit v)
  else if n = 0x1A then s.checkedWrite 0x1A#7 (takeRetryInterval v)
  else if n = 0x1B then s.checkedWrite 0x1B#7 (takeLostInterval v)
  else if n = 0x40 then { s with ps := s.ps.writeIndex v }
  else if h : 0x41 ≤ n ∧ n ≤ 0x44 then { s with ps := s.ps.writePart ⟨n - 0x41, by omega⟩ v }
  else if h : 0x48 ≤ n ∧ n ≤ 0x4F then
    { s with att := if n % 2 = 0 then s.att.writeLow v else s.att.writeHigh ⟨(n - 0x48) / 2, by omega⟩ v }
  else if 0x50 ≤ n ∧ n ≤ 0x53 then s.writeChannelWord .ch0 (n - 0x50) v
  else if 0x58 ≤ n ∧ n ≤ 0x5B then s.writeChannelWord .ch1 (n - 0x58) v
  else if n = 0x60 then s.checkedWrite 0x60#7 (takeIndicatorIndex v)
  else if h : 0x61 ≤ n ∧ n ≤ 0x63 then
    s.checkedWrite addr (takeIndicatorRecord ⟨n - 0x61, by omega⟩ v)
  else if n = 0x66 then s.checkedWrite 0x66#7 (takeChainLength v)
  else if n = 0x67 then s.checkedWrite 0x67#7 (takeFlashWidth v)
  else s

/-! ### The rows -/

/-- UNKNOWN_COMMAND (R183): the code written has no owner when it is above 20. -/
def execUnknownCommand (hi code : BitVec 8) (s : State) : Host.Outcome State Fault Refusal :=
  s.live fun s => s.command hi code (commandOwner code)

/-- REGISTER_WRITE (R175): argument words are stored, other registers without a row of their own ignore the write. An
address with a row of its own acts as that row (assumption 10). -/
def execRegisterWrite (addr : BitVec 7) (v : Word) (s : State) : Host.Outcome State Fault Refusal :=
  s.live fun s => s.writeWord addr v

end Sys2Proof.Machine
end

