-- ==== Sys2Proof/Machine/Spi.lean ====
section
/-! DEFINITION. The SPI target port (R174 to R176): the word accesses that a transaction's bits make, what each edge of
SSN and SCLK does to the part and to SDO, and the row each written word is. The table has no row for an edge of SPI
(assumption 11). -/
namespace Sys2Proof.Machine

/-- An unsigned number from bits, most significant first. -/
def numberOf (l : List Bool) : Nat := l.foldl (fun acc b => 2 * acc + bitN b) 0

/-- The bits of a word, most significant first (R174). -/
def wordBits (w : Word) : List Bool := (List.range 16).map fun k => w.getLsbD (15 - k)

/-- R174: the complete 16-bit words of a bit sequence, in order; a partial word at the end is discarded. `fuel` bounds
the count of words. -/
def spiWords : Nat → List Bool → List Word
  | 0, _ => []
  | fuel + 1, l =>
    if 16 ≤ l.length then BitVec.ofNat 16 (numberOf (l.take 16)) :: spiWords fuel (l.drop 16) else []

/-- R174, Figure 10-1: the command byte: read or write, and the address of the first word. `none` when the byte is not
complete. -/
def spiCommand (sdi : List Bool) : Option (Bool × BitVec 7) :=
  if 8 ≤ sdi.length then some (sdi.headD false, BitVec.ofNat 7 (numberOf ((sdi.take 8).drop 1))) else none

/-- R175: the addresses of a burst go up by 1 and wrap from 7FH to 00H. -/
def burst (first : BitVec 7) : List Word → List (BitVec 7 × Word)
  | [] => []
  | w :: rest => (first, w) :: burst (first + 1) rest

/-- R174, R175: the words a transaction writes, with their addresses. -/
def spiWrites (sdi : List Bool) : List (BitVec 7 × Word) :=
  match spiCommand sdi with
  | some (false, a) => burst a (spiWords sdi.length (sdi.drop 8))
  | _ => []

/-! ### The port, edge by edge (R174 to R176) -/

/-- An edge on the pins of the SPI target port. A rising edge of SCLK carries the level of SDI, and the levels of MDIO0
and MDIO1 at that moment, which CHANNEL_RESTART samples when the word written delivers it (R119). -/
inductive SpiEdge where
  /-- SSN falls. -/
  | select
  /-- SSN rises. -/
  | deselect
  /-- SCLK rises. -/
  | rise (sdi mdio0 mdio1 : Bool)
  /-- SCLK falls. -/
  | fall
deriving DecidableEq, Repr

/-- R174, R176: SDO: `none` while it is released, which is while SSN is high, while RSTN is low and in a transaction that
is not taken; low in the command byte and in a write. -/
def State.sdo (s : State) : Option Bool :=
  if s.rstnLow then none
  else
    match s.spi with
    | .idle => none
    | .command _ => some false
    | .writing .. => some false
    | .reading _ b _ => some b

/-- The levels of MDIO0 and MDIO1 noted for a CHANNEL_RESTART written as a word (R119, assumption 10). -/
def State.noteLines (s : State) (mdio0 mdio1 : Bool) : State :=
  { s with ch0 := { s.ch0 with mdioHigh := mdio0 }, ch1 := { s.ch1 with mdioHigh := mdio1 } }

/-- R174, Figure 10-1: what follows a complete command byte. -/
def SpiPort.afterByte (bits : List Bool) : SpiPort :=
  match spiCommand bits with
  | some (true, a) => .reading a false []
  | some (false, a) => .writing a []
  | none => .command bits

/-- R174, R175: SCLK rises: a bit of the command byte or of a written word is sampled; the 16th bit of a word writes
it, and the next word goes to the next address. -/
def State.spiRise (s : State) (sdi mdio0 mdio1 : Bool) : State :=
  match s.spi with
  | .command bits => { s with spi := .afterByte (bits ++ [sdi]) }
  | .writing a bits =>
    if bits.length < 15 then { s with spi := .writing a (bits ++ [sdi]) }
    else
      { (s.noteLines mdio0 mdio1).writeWord a (BitVec.ofNat 16 (numberOf (bits ++ [sdi]))) with
        spi := .writing (a + 1) [] }
  | _ => s

/-- R174, R175: SCLK falls: in a read the next bit is driven; the word at the next address is fixed when its first bit
is. -/
def State.spiFall (s : State) : State :=
  match s.spi with
  | .reading a _ (b :: left) => { s with spi := .reading a b left }
  | .reading a _ [] =>
    match wordBits (s.readWord a) with
    | b :: left => { s with spi := .reading (a + 1) b left }
    | [] => s
  | _ => s

/-- R174, R176: an edge on the pins. While RSTN is low the port takes none; a transaction in progress when RSTN falls is
discarded with the rest of the part's state. -/
def State.spiEdge (s : State) (e : SpiEdge) : State :=
  if s.rstnLow then s
  else
    match e with
    | .select => { s with spi := .command [] }
    | .deselect => { s with spi := .idle }
    | .rise sdi mdio0 mdio1 => s.spiRise sdi mdio0 mdio1
    | .fall => s.spiFall

/-- R174: the edges of a transaction whose bits on SDI are given, with MDIO0 and MDIO1 at one level throughout. -/
def spiTransaction (sdi : List Bool) (mdio0 mdio1 : Bool) : List SpiEdge :=
  .select :: sdi.flatMap (fun b => [.rise b mdio0 mdio1, .fall]) ++ [.deselect]

/-- R174, R175: a transaction taken with nothing else between its edges. -/
def State.takeSpi (s : State) (sdi : List Bool) (mdio0 mdio1 : Bool) : State :=
  (spiTransaction sdi mdio0 mdio1).foldl State.spiEdge s

/-! ### Written words and rows -/

/-- The row of the table that a write of the command register is, by its code and the argument words (R183, R189). -/
def State.commandRow (s : State) (hi code : BitVec 8) : Instr :=
  match code.toNat with
  | 0 => .nop hi
  | 1 => .bind hi
  | 2 => .unbind hi
  | 3 => .suspend hi
  | 4 => .resume hi
  | 5 => .retry hi
  | 6 => .ack hi
  | 7 => .snapshot hi
  | 8 => .setScanEntry hi
  | 9 => .setScanLength hi
  | 10 => .profileLoad hi
  | 11 => if s.argKind = 0 then .postRawRead hi else if s.argKind = 1 then .postRawWrite hi else .postItemRead hi
  | 12 => .takeCompletion hi
  | 13 => .popEvent hi
  | 14 => .override hi
  | 15 => .cancelOverride hi
  | 16 => if s.argMode = 0 then .setRateDeferred hi else .setRateImmediate hi
  | 17 => if s.argOn then .channelEnableOn hi else .channelEnableOff hi
  | 18 => .channelAbort hi
  | 19 => .channelRestart hi (((chanOf s.argChannel).map fun ch => (s.chan ch).mdioHigh).getD true)
  | 20 => .softReset hi
  | _ => .unknownCommand hi code

/-- R178: the row of the table that a written word is, by its address. -/
def State.writeRow (s : State) (addr : BitVec 7) (v : Word) : Instr :=
  let n := addr.toNat
  if n = 0x08 then .writeInterruptCauses v
  else if n = 0x09 then .writeInterruptEnables v
  else if n = 0x0A then .writeEventThreshold v
  else if n = 0x0B then .writeHoldoff v
  else if n = 0x12 then s.commandRow (v.extractLsb' 8 8) (v.extractLsb' 0 8)
  else if n = 0x18 then .writeMissLimit v
  else if n = 0x19 then .writeProbeAttemptLimit v
  else if n = 0x1A then .writeProbeRetryInterval v
  else if n = 0x1B then .writeLostCheckInterval v
  else if n = 0x40 then .writeStagingIndex v
  else if h : 0x41 ≤ n ∧ n ≤ 0x44 then .writeStagingPart ⟨n - 0x41, by omega⟩ v
  else if h : 0x48 ≤ n ∧ n ≤ 0x4F then
    if n % 2 = 0 then .writeAttentionLow ⟨(n - 0x48) / 2, by omega⟩ v
    else .writeAttentionHigh ⟨(n - 0x48) / 2, by omega⟩ v
  else if n = 0x50 then .writeDivider .ch0 v
  else if n = 0x51 then .writePassInterval .ch0 v
  else if n = 0x52 then .writeHostWeight .ch0 v
  else if n = 0x53 then .writeChannelStatus .ch0 v
  else if n = 0x58 then .writeDivider .ch1 v
  else if n = 0x59 then .writePassInterval .ch1 v
  else if n = 0x5A then .writeHostWeight .ch1 v
  else if n = 0x5B then .writeChannelStatus .ch1 v
  else if n = 0x60 then .writeIndicatorIndex v
  else if h : 0x61 ≤ n ∧ n ≤ 0x63 then .writeIndicatorRecord ⟨n - 0x61, by omega⟩ v
  else if n = 0x66 then .writeChainLength v
  else if n = 0x67 then .writeFlashWidth v
  else .registerWrite addr v

end Sys2Proof.Machine
end

