-- ==== Sys2Proof/Machine/Dispatch.lean ====
section
/-! DEFINITION. The meaning of every row of the table, one arm per constructor of Instr. -/
namespace Sys2Proof.Machine

def exec (i : Instr) (s : State) : Host.Outcome State Fault Refusal :=
  match i with
  | .nop hi => Sys2Proof.Machine.execNop hi s
  | .bind hi => Sys2Proof.Machine.execBind hi s
  | .unbind hi => Sys2Proof.Machine.execUnbind hi s
  | .suspend hi => Sys2Proof.Machine.execSuspend hi s
  | .resume hi => Sys2Proof.Machine.execResume hi s
  | .retry hi => Sys2Proof.Machine.execRetry hi s
  | .ack hi => Sys2Proof.Machine.execAck hi s
  | .snapshot hi => Sys2Proof.Machine.execSnapshot hi s
  | .setScanEntry hi => Sys2Proof.Machine.execSetScanEntry hi s
  | .setScanLength hi => Sys2Proof.Machine.execSetScanLength hi s
  | .profileLoad hi => Sys2Proof.Machine.execProfileLoad hi s
  | .postRawRead hi => Sys2Proof.Machine.execPostRawRead hi s
  | .postRawWrite hi => Sys2Proof.Machine.execPostRawWrite hi s
  | .postItemRead hi => Sys2Proof.Machine.execPostItemRead hi s
  | .takeCompletion hi => Sys2Proof.Machine.execTakeCompletion hi s
  | .popEvent hi => Sys2Proof.Machine.execPopEvent hi s
  | .override hi => Sys2Proof.Machine.execOverride hi s
  | .cancelOverride hi => Sys2Proof.Machine.execCancelOverride hi s
  | .setRateDeferred hi => Sys2Proof.Machine.execSetRateDeferred hi s
  | .setRateImmediate hi => Sys2Proof.Machine.execSetRateImmediate hi s
  | .channelEnableOn hi => Sys2Proof.Machine.execChannelEnableOn hi s
  | .channelEnableOff hi => Sys2Proof.Machine.execChannelEnableOff hi s
  | .channelAbort hi => Sys2Proof.Machine.execChannelAbort hi s
  | .channelRestart hi mdioHigh => Sys2Proof.Machine.execChannelRestart hi mdioHigh s
  | .softReset hi => Sys2Proof.Machine.execSoftReset hi s
  | .unknownCommand hi code => Sys2Proof.Machine.execUnknownCommand hi code s
  | .writeInterruptCauses v => Sys2Proof.Machine.execWriteInterruptCauses v s
  | .writeInterruptEnables v => Sys2Proof.Machine.execWriteInterruptEnables v s
  | .writeEventThreshold v => Sys2Proof.Machine.execWriteEventThreshold v s
  | .writeHoldoff v => Sys2Proof.Machine.execWriteHoldoff v s
  | .writeMissLimit v => Sys2Proof.Machine.execWriteMissLimit v s
  | .writeProbeAttemptLimit v => Sys2Proof.Machine.execWriteProbeAttemptLimit v s
  | .writeProbeRetryInterval v => Sys2Proof.Machine.execWriteProbeRetryInterval v s
  | .writeLostCheckInterval v => Sys2Proof.Machine.execWriteLostCheckInterval v s
  | .writeStagingIndex v => Sys2Proof.Machine.execWriteStagingIndex v s
  | .writeStagingPart word v => Sys2Proof.Machine.execWriteStagingPart word v s
  | .writeAttentionLow line v => Sys2Proof.Machine.execWriteAttentionLow line v s
  | .writeAttentionHigh line v => Sys2Proof.Machine.execWriteAttentionHigh line v s
  | .writeDivider ch v => Sys2Proof.Machine.execWriteDivider ch v s
  | .writePassInterval ch v => Sys2Proof.Machine.execWritePassInterval ch v s
  | .writeHostWeight ch v => Sys2Proof.Machine.execWriteHostWeight ch v s
  | .writeChannelStatus ch v => Sys2Proof.Machine.execWriteChannelStatus ch v s
  | .writeIndicatorIndex v => Sys2Proof.Machine.execWriteIndicatorIndex v s
  | .writeIndicatorRecord word v => Sys2Proof.Machine.execWriteIndicatorRecord word v s
  | .writeChainLength v => Sys2Proof.Machine.execWriteChainLength v s
  | .writeFlashWidth v => Sys2Proof.Machine.execWriteFlashWidth v s
  | .registerWrite addr v => Sys2Proof.Machine.execRegisterWrite addr v s
  | .resetAssert => Sys2Proof.Machine.execResetAssert s
  | .resetRelease => Sys2Proof.Machine.execResetRelease s
  | .timebaseTick atn => Sys2Proof.Machine.execTimebaseTick atn s
  | .indicatorRefresh => Sys2Proof.Machine.execIndicatorRefresh s
  | .probeRetryExpiry port => Sys2Proof.Machine.execProbeRetryExpiry port s
  | .lostCheckExpiry port => Sys2Proof.Machine.execLostCheckExpiry port s
  | .passIntervalExpiry ch => Sys2Proof.Machine.execPassIntervalExpiry ch s
  | .holdoffExpiry => Sys2Proof.Machine.execHoldoffExpiry s
  | .ratePhaseExpiry slot => Sys2Proof.Machine.execRatePhaseExpiry slot s
  | .flashPhaseExpiry port => Sys2Proof.Machine.execFlashPhaseExpiry port s
  | .overrideExpiry indicator => Sys2Proof.Machine.execOverrideExpiry indicator s
  | .idleLineCheck ch mdioHigh => Sys2Proof.Machine.execIdleLineCheck ch mdioHigh s
  | .frameEnd ch turnaround data => Sys2Proof.Machine.execFrameEnd ch turnaround data s

end Sys2Proof.Machine
end

