-- ==== Sys2Proof/Safety.lean ====
section
/-! DEFINITION. What a safe run of the PZ2410 keeps: the laws the manual states of the part at every moment, one
structure for each block, and the vocabulary the statements use. -/
namespace Sys2Proof.Safety

open Sys2Proof.Machine

/-! ### Codes of the window (R180, R181, R187, Figures 10-4 to 10-8) -/

/-- R180: the codes of states. -/
def stateCodes : List (PortState × Nat) :=
  [(.unbound, 0), (.probing, 1), (.active, 2), (.lost, 3), (.suspended, 4), (.failed, 5)]

/-- R180: the codes of reasons. -/
def reasonCodes : List (Option Reason × Nat) :=
  [(none, 0), (some .host, 1), (some .resumed, 2), (some .retry, 3), (some .noAnswer, 4), (some .identity, 5),
    (some .setup, 6), (some .misses, 7), (some .remoteReset, 8), (some .present, 9)]

/-- R180: the codes of causes. -/
def causeCodes : List (Cause × Nat) := [(.scan, 1), (.probe, 2), (.host, 3)]

/-- R180: the codes of speeds. -/
def speedCodes : List (SpeedCode × Nat) := [(.s10, 0), (.s100, 1), (.s1000, 2), (.s2500, 3)]

/-- R180: a word shows an optional item value: 0 where it is absent, 1 for the asserted value of a one-bit item, the code
of a speed, and a 16-bit value as it is. -/
def ShowsValue (w : Word) (v : Option ItemValue) : Prop :=
  (v = none → w = 0) ∧ (v = some (.flag true) → w = 1) ∧ (v = some (.flag false) → w = 0) ∧
  (∀ x ∈ speedCodes, v = some (.speed x.1) → w.toNat = x.2) ∧ ∀ u, v = some (.word u) → w = u

/-- Figure 10-5: the results of completion records. -/
def hostResultCodes : List (HostResult × Nat) :=
  [(.ok, 0), (.noAnswer, 1), (.busFault, 2), (.aborted, 3), (.portGone, 4), (.badState, 5)]

/-- Figure 10-6: the conditions of indicator records. -/
def conditionCodes : List (Condition × Nat) :=
  [(.none, 0), (.always, 1), (.linkUp, 2), (.linkStickyDown, 3), (.speedIs, 4), (.fullDuplex, 5), (.negPending, 6),
    (.rfaultSticky, 7), (.energy, 8), (.portStateIn, 9), (.channelHalted, 10), (.eventsPending, 11)]

/-- Figure 10-6: the patterns. -/
def patternCodes : List (PatternKind × Nat) :=
  [(.off, 0), (.on, 1), (.blinkA, 2), (.blinkB, 3), (.flash, 4), (.onFlashOff, 5)]

/-- Figure 10-8: the results of commands. -/
def resultCodes : List (ResultCode × Nat) :=
  [(.none, 0), (.done, 1), (.inProgress, 2), (.busy, 3), (.badArg, 4), (.badState, 5), (.conflict, 6), (.inUse, 7),
    (.full, 8), (.empty, 9), (.fault, 10)]

/-- R175, R178: Figure 10-2 does not list the address. -/
def unlisted (a : BitVec 7) : Prop :=
  (0x15 ≤ a.toNat ∧ a.toNat ≤ 0x17) ∨ (0x1C ≤ a.toNat ∧ a.toNat ≤ 0x1F) ∨ (0x3C ≤ a.toNat ∧ a.toNat ≤ 0x3F) ∨
  (0x45 ≤ a.toNat ∧ a.toNat ≤ 0x47) ∨ a.toNat = 0x56 ∨ a.toNat = 0x57 ∨ a.toNat = 0x5E ∨ a.toNat = 0x5F ∨
  0x70 ≤ a.toNat

/-! ### When a command or a checked write reaches its owner -/

/-- R176, R183: RSTN is high and no timed command is in progress. -/
structure Ready (s : State) : Prop where
  rstn : s.rstnLow = false
  timed : s.cu.timed = none

/-- R183, R187: the Command Unit after a write of the command register whose answer is shown: `hi` and the code in the
command register, the result, sub-code, source and item in the result registers, and every other part of it as it was. -/
def shown (u : CommandUnit) (hi code : BitVec 8) (r : ResultCode) (sub : BitVec 8) (item : Option Item) : CommandUnit :=
  { u with command := hi ++ code, result := ⟨r, sub, code, item⟩ }

/-- R186, R187: the Command Unit after a checked write of the register at an address. -/
def checkedShown (u : CommandUnit) (addr : BitVec 7) (r : ResultCode) : CommandUnit :=
  { u with result := ⟨r, 0, 0x80#8 ||| addr.setWidth 8, none⟩ }

/-- R188: the code of the command that a row of the command set is, with bits 15 to 8 of the word written. -/
def commandOf : Instr → Option (BitVec 8 × BitVec 8)
  | .nop hi => some (hi, 0)
  | .bind hi => some (hi, 1)
  | .unbind hi => some (hi, 2)
  | .suspend hi => some (hi, 3)
  | .resume hi => some (hi, 4)
  | .retry hi => some (hi, 5)
  | .ack hi => some (hi, 6)
  | .snapshot hi => some (hi, 7)
  | .setScanEntry hi => some (hi, 8)
  | .setScanLength hi => some (hi, 9)
  | .profileLoad hi => some (hi, 10)
  | .postRawRead hi => some (hi, 11)
  | .postRawWrite hi => some (hi, 11)
  | .postItemRead hi => some (hi, 11)
  | .takeCompletion hi => some (hi, 12)
  | .popEvent hi => some (hi, 13)
  | .override hi => some (hi, 14)
  | .cancelOverride hi => some (hi, 15)
  | .setRateDeferred hi => some (hi, 16)
  | .setRateImmediate hi => some (hi, 16)
  | .channelEnableOn hi => some (hi, 17)
  | .channelEnableOff hi => some (hi, 17)
  | .channelAbort hi => some (hi, 18)
  | .channelRestart hi _ => some (hi, 19)
  | .softReset hi => some (hi, 20)
  | .unknownCommand hi code => some (hi, code)
  | _ => none

/-- R186: the address of the register that a row of checked writes writes. -/
def checkedOf : Instr → Option (BitVec 7)
  | .writeEventThreshold _ => some 0x0A
  | .writeHoldoff _ => some 0x0B
  | .writeMissLimit _ => some 0x18
  | .writeProbeAttemptLimit _ => some 0x19
  | .writeProbeRetryInterval _ => some 0x1A
  | .writeLostCheckInterval _ => some 0x1B
  | .writeDivider .ch0 _ => some 0x50
  | .writeDivider .ch1 _ => some 0x58
  | .writePassInterval .ch0 _ => some 0x51
  | .writePassInterval .ch1 _ => some 0x59
  | .writeHostWeight .ch0 _ => some 0x52
  | .writeHostWeight .ch1 _ => some 0x5A
  | .writeIndicatorIndex _ => some 0x60
  | .writeIndicatorRecord n _ => some (BitVec.ofNat 7 (0x61 + n.val))
  | .writeChainLength _ => some 0x66
  | .writeFlashWidth _ => some 0x67
  | _ => none

/-- R176: the two rows of RSTN. -/
def isReset : Instr → Bool
  | .resetAssert => true
  | .resetRelease => true
  | _ => false

/-- The other channel. -/
def other : Chan → Chan
  | .ch0 => .ch1
  | .ch1 => .ch0

/-! ### What decisions and transitions leave -/

/-- R95 to R99: `t` is `u` after the arbiter of a channel has taken a notice (`State.notice`): only that channel and the
completion queue may differ, and nothing at all does where the arbiter may not decide. -/
structure DecidedFrom (u t : State) (ch : Chan) : Prop where
  notice : t = u.notice ch
  pt : t.pt = u.pt
  ps : t.ps = u.ps
  att : t.att = u.att
  ev : t.ev = u.ev
  ie : t.ie = u.ie
  cu : t.cu = u.cu
  spi : t.spi = u.spi
  rstnLow : t.rstnLow = u.rstnLow
  stamp : t.stamp = u.stamp
  pending : t.pending = u.pending
  otherChannel : t.chan (other ch) = u.chan (other ch)
  outstanding : t.ht.outstanding = u.ht.outstanding
  view : t.ht.view = u.ht.view
  completions : ∃ l, t.ht.completions = u.ht.completions ++ l
  still : u.mayDecide ch = false → t = u

/-- R12, R131: a unit in flight after a transition of a port: a job of the port is stale, and so is a host ITEM_READ of
the port at its turn; any other unit is as it was. -/
def staled (p : PortId) : HeldUnit → HeldUnit
  | .job j => .job { j with stale := j.stale || decide (j.port = p) }
  | .host r =>
    match r.current.txn.op with
    | .itemRead q _ _ => .host { r with current := { r.current with stale := r.current.stale || decide (q = p) } }
    | _ => .host r

/-- R47 (c): a scheduler after a port has left a state: out of the urgent queue from ACTIVE, out of the probe queue from
PROBING or LOST. -/
def withoutPort (c : Scheduler) (p : PortId) (old : PortState) : Scheduler :=
  { c with
    urgent := if old = .active then c.urgent.filter fun q => decide (q ≠ p) else c.urgent
    probes := if old = .probing ∨ old = .lost then c.probes.filter fun m => decide (m.1 ≠ p) else c.probes }

/-- R82: a scheduler after a member has been asked for at the tail of its probe queue. -/
def withProbe (c : Scheduler) (p : PortId) (k : ProbeKind) : Scheduler :=
  { c with probes := if p ∈ c.probes.map Prod.fst then c.probes else c.probes ++ [(p, k)] }

/-- R59, R82: a scheduler after a member has been returned to the front of its probe queue. -/
def withProbeFirst (c : Scheduler) (p : PortId) (k : ProbeKind) : Scheduler :=
  { c with probes := if p ∈ c.probes.map Prod.fst then c.probes else (p, k) :: c.probes }

/-- R81: a queue after ports have been added in order, each unless it is already there. -/
def addedOnce (queue : List PortId) (ports : List PortId) : List PortId :=
  ports.foldl (fun q p => if p ∈ q then q else q ++ [p]) queue

/-- R80: the ports of some attention lines that are ACTIVE and bound to a channel, lines in order and the ports of each
in port-number order. -/
def linePorts (s : State) (ch : Chan) (lines : BitVec 4) : List PortId :=
  (List.finRange 4).flatMap fun (n : Fin 4) =>
    allPorts.filter fun p => lines.getLsbD n && s.att.sets[n].getLsbD p && (s.port p).activeOn ch

/-- R47 (b), (c): a channel after a port with a record has left its state: what is in flight for the port is stale, and
the port has left the queue of the state on the channel of its binding. -/
def leaving (c : Channel) (ch : Chan) (r : PortRec) (p : PortId) : Channel :=
  { c with
    held := c.held.map (staled p)
    sched := if r.onChannel ch then withoutPort c.sched p r.state else c.sched }

/-- R47 (b), (d): a channel after a port bound to the channel `home` has been asked for at the tail of its probe queue,
with what is in flight for the port stale. -/
def joining (c : Channel) (ch home : Chan) (p : PortId) (k : ProbeKind) : Channel :=
  { c with
    held := c.held.map (staled p)
    sched := if ch = home then withProbe c.sched p k else c.sched }

/-- R47: a channel after a port has taken an outcome that leaves it in its state: what is in flight for the port is
stale. -/
def staying (c : Channel) (p : PortId) : Channel := { c with held := c.held.map (staled p) }

/-- R47 (b) to (d): a channel after a port with a record has left its state for PROBING: what is in flight for the port is
stale, and on the channel of its binding the port has left the queue of its state and stands at the tail of the probe
queue. -/
def reprobing (c : Channel) (ch : Chan) (r : PortRec) (p : PortId) : Channel :=
  { c with
    held := c.held.map (staled p)
    sched := if r.onChannel ch then withProbe (withoutPort c.sched p r.state) p .probe else c.sched }

/-- R10, R47 (e): a record whose port's event has been posted: RESYNC is set where the event was refused. -/
def reported (r : PortRec) (refused : Bool) : PortRec := { r with resync := r.resync || refused }

/-- R10, R141: the event block after events have been posted in order at a stamp, and whether one was refused. -/
def posted (e : EventBlock) (stamp : Word) : List EventBody → EventBlock × Bool
  | [] => (e, false)
  | b :: rest =>
    let x := e.take b stamp
    let y := posted x.1 stamp rest
    (y.1, x.2 || y.2)

/-- R14 to R18, R20: the item-change events of a fetch result, in item order, by the record before and after it: one for
each item other than COUNT whose value changed or whose sticky flag was newly set, and one for COUNT when the saturated
flag was newly set. -/
def fetchEvents (r r' : PortRec) (f : FetchResult) : List EventBody :=
  let one := fun (i : Item) (newly : Bool) =>
    if r.mirror.get i ≠ r'.mirror.get i ∨ newly = true then
      [EventBody.itemChange f.port i (r.mirror.get i) (r'.mirror.get i) f.cause]
    else []
  one .link (!r.stickyDown && r'.stickyDown) ++ one .neg false ++ one .speed false ++ one .duplex false ++
    one .rfault (!r.stickyFault && r'.stickyFault) ++ one .partner false ++ one .energy false ++
    if r.saturated = false ∧ r'.saturated = true then
      [.itemChange f.port .count r.mirror.count (some (.word 0xFFFF#16)) f.cause]
    else []

/-- R5, R20: the item-change events of a clearing of the live mirror, in item order: one for each present item other than
COUNT, and one for LINK also when sticky-down was clear. -/
def clearingEvents (r : PortRec) (p : PortId) : List EventBody :=
  [Item.link, .neg, .speed, .duplex, .rfault, .partner, .energy].flatMap fun i =>
    if r.mirror.get i ≠ none ∨ (i = .link ∧ r.stickyDown = false) then
      [EventBody.itemChange p i (r.mirror.get i) none .scan]
    else []

/-- R5, R6: a record whose live mirror has been cleared: every value absent, sticky-down set, and set the changed flag of
each item other than COUNT whose value was present, and of LINK also when sticky-down was clear. -/
def cleared (r : PortRec) : PortRec :=
  { r with
    mirror := .const none
    stickyDown := true
    changed :=
      { link := r.changed.link || r.mirror.link.isSome || !r.stickyDown
        neg := r.changed.neg || r.mirror.neg.isSome
        speed := r.changed.speed || r.mirror.speed.isSome
        duplex := r.changed.duplex || r.mirror.duplex.isSome
        rfault := r.changed.rfault || r.mirror.rfault.isSome
        partner := r.changed.partner || r.mirror.partner.isSome
        energy := r.changed.energy || r.mirror.energy.isSome
        count := r.changed.count } }

/-- R184 (a) to (c): the Command Unit after a timed command of a code has completed. -/
def completed (u : CommandUnit) (code : BitVec 8) : CommandUnit :=
  { u with
    timed := none
    lastTimed := some (code, .done)
    result := if u.result.code = .inProgress then { u.result with code := .done } else u.result }

/-- R116, R77: a channel at the end of a disable drain. -/
def disabled (c : Channel) : Channel :=
  { c with
    state := .off
    drain := .none
    sched := { c.sched with pass := none, pendingExpiry := false, passTimer := .stopped } }

/-- R100, R109, R116: what follows a frame's end once the held unit has taken its result, leaving `u`. With no drain the
arbiter takes its notice, which changes nothing while a unit holds the channel. In a disable drain nothing follows while
a unit holds the channel; when none does, the channel becomes OFF and CHANNEL_ENABLE(off) completes. -/
def UnitFollowed (u t : State) (ch : Chan) : Prop :=
  ((u.chan ch).drain = .none → DecidedFrom u t ch) ∧
  ((u.chan ch).drain = .disable →
    ((u.chan ch).held.isSome = true → t = u) ∧
    ((u.chan ch).held = none → u.cu.timed = some ⟨17, decide (ch = .ch0), decide (ch = .ch1)⟩ →
      t = State.setChan { u with cu := completed u.cu 17 } ch (disabled (u.chan ch))))

/-- R111: the result of a frame: a write is written, a read is answered by its data when its second turnaround bit was
0. -/
def frameResult (f : FlyingFrame) (turnaround : Bool) (data : Word) : FrameResult :=
  if f.frame.op = .read then (if turnaround then .noAnswer else .answered data) else .written

/-- R112, R114: a channel whose started frame has ended with a result, before its unit takes it. -/
def frameGone (c : Channel) (f : FlyingFrame) (res : FrameResult) : Channel :=
  { c with
    frame := none
    established :=
      if res = .noAnswer then c.established &&& ~~~(1#32 <<< f.frame.device.toNat)
      else if f.preamble then c.established ||| (1#32 <<< f.frame.device.toNat)
      else c.established
    state := if c.state = .busy then .idle else c.state }

/-- R109, R113: a channel to which a unit has handed a frame. -/
def frameHanded (c : Channel) (u : HeldUnit) (f : Frame) (mayOmit : Bool) : Channel :=
  { c with
    held := some u
    frame := some ⟨f, !(mayOmit && c.established.getLsbD f.device.toNat), none⟩
    state := if c.state = .idle then .busy else c.state }

/-- R132: records of transactions that complete with one result and no data. -/
def allWith (l : List HostTxn) (r : HostResult) : List Completion := l.map fun t => ⟨t, r, none⟩

/-- R125, R189: the transaction that a row of POST asks for by its arguments, every argument in its range, and for an
ITEM_READ a bound port whose profile has the item. -/
def postAsks (s : State) (hi : BitVec 8) (i : Instr) (t : HostTxn) : Prop :=
  t.tag = s.argTag ∧
  ((∃ dev reg : BusAddr, s.argChannel = chanNumber t.channel ∧ s.argDevice = dev.toNat ∧ s.argRegister = reg.toNat ∧
      ((i = .postRawRead hi ∧ s.argKind = 0 ∧ t.op = .rawRead dev reg) ∨
        (i = .postRawWrite hi ∧ s.argKind = 1 ∧ t.op = .rawWrite dev reg (s.arg 2)))) ∨
    ∃ (p : PortId) (item : Item) (b : Binding) (f : Profile), i = .postItemRead hi ∧ s.argKind = 2 ∧
      s.argTarget = p.val ∧ s.argItem = item.index ∧ (s.port p).binding = some b ∧ b.channel = t.channel ∧
      s.profile b.profile = some f ∧ (f.recipes.get item).isSome = true ∧
      t.op = .itemRead p item (s.port p).bindings)

/-- R109: the frame of a channel has started on the lines. -/
def started (c : Channel) : Bool := (c.frame.bind FlyingFrame.rate).isSome

/-- R122, R91, R103, R138: a channel after SOFT_RESET. -/
def softChannel (c : Channel) : Channel :=
  { Channel.reset with
    sched := { Scheduler.reset with
      passInterval := c.sched.passInterval
      passTimer := if c.enabled then .running c.sched.passInterval else .stopped }
    hostWeight := c.hostWeight
    hostTurn := c.hostWeight
    state := if c.enabled then .idle else .off
    enabled := c.enabled
    divider := c.divider
    mdioHigh := c.mdioHigh }

/-- R190, R26, R44, R68, R91, R103, R122, R138, R155, R173, R192: the part after the reset of dynamic state, with the
Command Unit given. The slots of the OFF patterns of a record are the model's choice (assumption 13). -/
def softened (s : State) (u : CommandUnit) : State :=
  { s with
    cu := u
    pt := { s.pt with ports := Vector.replicate 24 PortRec.reset, view := none }
    ch0 := softChannel s.ch0
    ch1 := softChannel s.ch1
    att := .reset
    ht := .reset
    ev := { EventBlock.reset with
      threshold := s.ev.threshold, holdoff := s.ev.holdoff, enables := s.ev.enables }
    ie := { s.ie with
      records := Vector.replicate 48 .reset
      slots := mapVec (fun t => RateSlot.restarted t.half) s.ie.slots
      flash := Vector.replicate 24 .reset } }

/-- R118 (a) to (c), R88: a channel at the end of an abort drain. -/
def aborted (c : Channel) : Channel :=
  { c with
    held := none
    frame := none
    hostQueue := []
    chainOpen := false
    drain := .none
    state := if c.state = .off then .off else if c.state = .halted then .halted else .idle
    sched := { c.sched with
      pass := none
      pendingExpiry := false
      urgent := []
      passTimer := if c.sched.passTimer = .expired then .running c.sched.passInterval else c.sched.passTimer } }

/-- R117: a channel on which an abort drain begins: it drains with a frame on the lines, and otherwise the drain ends at
once. -/
def drainBegun (c : Channel) : Channel :=
  if started c = true then { c with state := .draining, drain := .abort } else aborted c

/-- R117, R118 (a), R132: the completion records of an abort drain that ends where it begins: those of a host unit that
holds the channel, its members ended before as they ended and the others ABORTED, then those of the units queued. None
with a frame on the lines, whose drain goes on. -/
def drainRecords (c : Channel) : List Completion :=
  if started c = true then []
  else
    (match c.held with
      | some (.host r) => r.done ++ allWith (r.current.txn :: r.todo) .aborted
      | _ => []) ++ allWith c.hostQueue.flatten .aborted

/-- R77, R115, R116: a channel that a disable has made OFF. -/
def turnedOff (c : Channel) : Channel :=
  { c with
    enabled := false
    state := .off
    sched := { c.sched with pass := none, pendingExpiry := false, passTimer := .stopped } }

/-- R161: lit or dark under a pattern for a port. -/
def litUnder (e : IndicatorEngine) (p : Pattern) (port : PortId) : Bool :=
  match p.kind with
  | .off => false
  | .on => true
  | .blinkA => e.slots[p.slot].phaseOn
  | .blinkB => !e.slots[p.slot].phaseOn
  | .flash => decide (e.flash[port].phase = .pulse)
  | .onFlashOff => !decide (e.flash[port].phase = .pulse)

/-- The row is SNAPSHOT. -/
def isSnapshot : Instr → Bool
  | .snapshot _ => true
  | _ => false

/-- The row is POP_EVENT. -/
def isPop : Instr → Bool
  | .popEvent _ => true
  | _ => false

/-- The row is TAKE_COMPLETION. -/
def isTake : Instr → Bool
  | .takeCompletion _ => true
  | _ => false

/-- The row is SOFT_RESET. -/
def isSoftReset : Instr → Bool
  | .softReset _ => true
  | _ => false

/-! ### Event Queue and Notification (R141, R143, R150, R151) -/

/-- R141: at most 64 records, no two with one key; R143: repeat counts 1 to 255; R151: the threshold's range; R150: the
holdoff timer is STOPPED exactly while the queue is empty. -/
structure EventLaw (e : EventBlock) : Prop where
  room : e.queue.length ≤ 64
  keys : (e.queue.map fun r => r.body.key).Nodup
  repeats : ∀ r ∈ e.queue, 1 ≤ r.repeats ∧ r.repeats ≤ 255
  threshold : 1 ≤ e.threshold ∧ e.threshold ≤ 64
  timer : e.timer = .stopped ↔ e.queue = []

/-! ### Host Transaction Unit (R123, R126, R127, R128) -/

/-- R123, R127, R128: the host queue of one channel: at most 8 units of 1 to 4 transactions of the channel; an open chain
stands at the tail with at most 3 members. -/
structure HostQueueLaw (c : Channel) (ch : Chan) : Prop where
  capacity : c.hostQueue.length ≤ 8
  members : ∀ u ∈ c.hostQueue, 1 ≤ u.length ∧ u.length ≤ 4
  channel : ∀ u ∈ c.hostQueue, ∀ t ∈ u, t.channel = ch
  openTail : c.chainOpen = true → 1 ≤ c.tailMembers ∧ c.tailMembers ≤ 3

/-- R126: the outstanding count is the number of queued transactions, of those in flight and of the completion records
not yet taken, and is at most 16. -/
structure CreditLaw (s : State) : Prop where
  sum : s.ht.outstanding = s.ch0.queuedCount + s.ch1.queuedCount + s.ch0.inFlightCount + s.ch1.inFlightCount
    + s.ht.completions.length
  limit : s.ht.outstanding ≤ 16
  queue0 : HostQueueLaw s.ch0 .ch0
  queue1 : HostQueueLaw s.ch1 .ch1

/-! ### Port Table (R2, R3, R5, R7, R18, R48, R58, R62, R66, R67) -/

/-- R3: a one-bit item's value. -/
def isFlag : Option ItemValue → Bool
  | none => true
  | some (.flag _) => true
  | _ => false

/-- R3: a speed code. -/
def isSpeed : Option ItemValue → Bool
  | none => true
  | some (.speed _) => true
  | _ => false

/-- R3: a 16-bit word. -/
def isWord : Option ItemValue → Bool
  | none => true
  | some (.word _) => true
  | _ => false

/-- Figure 1-2: every present mirror value is of its item's domain. -/
structure DomainLaw (m : PerItem (Option ItemValue)) : Prop where
  link : isFlag m.link = true
  neg : isFlag m.neg = true
  speed : isSpeed m.speed = true
  duplex : isFlag m.duplex = true
  rfault : isFlag m.rfault = true
  partner : isWord m.partner = true
  energy : isFlag m.energy = true
  count : isWord m.count = true

/-- R2: bound exactly while a binding is present. R7: the sticky law. R18: PARTNER only while NEG is true. R58, R62: the
probe-retry timer runs in PROBING alone, the lost-check timer in LOST alone. R5: an UNBOUND port mirrors nothing. -/
structure RecordLaw (r : PortRec) : Prop where
  bound : r.binding.isSome = r.bound
  down : r.bound = true → r.mirror.link ≠ some (.flag true) → r.stickyDown = true
  fault : r.bound = true → r.mirror.rfault = some (.flag true) → r.stickyFault = true
  partner : r.mirror.partner.isSome = true → r.mirror.neg = some (.flag true)
  domain : DomainLaw r.mirror
  retry : r.probeRetry.isSome = true → r.state = .probing
  lost : r.lostCheck.isSome = true → r.state = .lost
  unbound : r.bound = false → r.mirror = .const none

/-- R66, R67: the limits and intervals lie in their ranges, and no count exceeds its limit. -/
structure LimitLaw (t : PortTable) : Prop where
  miss : 1 ≤ t.missLimit ∧ t.missLimit ≤ 15
  attempt : 1 ≤ t.attemptLimit ∧ t.attemptLimit ≤ 15
  retry : 1 ≤ t.retryInterval ∧ t.retryInterval ≤ 65535
  lost : 1 ≤ t.lostInterval ∧ t.lostInterval ≤ 65535
  counts : ∀ p : PortId, t.ports[p].missCount ≤ t.missLimit ∧ t.ports[p].attemptCount ≤ t.attemptLimit

/-- R48: no two bound ports have the same channel and device address. -/
def UniqueLaw (t : PortTable) : Prop :=
  ∀ p q : PortId, t.ports[p].bound = true → t.ports[q].bound = true →
    t.ports[p].binding.map (fun b => (b.channel, b.device)) = t.ports[q].binding.map (fun b => (b.channel, b.device)) →
    p = q

/-- The laws of the Port Table. -/
structure PortLaw (t : PortTable) : Prop where
  records : ∀ p : PortId, RecordLaw t.ports[p]
  limits : LimitLaw t
  unique : UniqueLaw t

/-! ### Queues of the Scan Schedulers (R83) -/

/-- R82: the state a probe queue member requires of its port. -/
def memberState : ProbeKind → PortState
  | .probe => .probing
  | .presence => .lost

/-- R83: each queue holds any port at most once, and only ports bound to its channel in the state the queue requires. -/
structure QueueLaw (s : State) (ch : Chan) : Prop where
  urgentOnce : (s.chan ch).sched.urgent.Nodup
  urgent : ∀ p ∈ (s.chan ch).sched.urgent, (s.port p).activeOn ch = true
  probesOnce : ((s.chan ch).sched.probes.map Prod.fst).Nodup
  probes : ∀ m ∈ (s.chan ch).sched.probes,
    (s.port m.1).state = memberState m.2 ∧ (s.port m.1).onChannel ch = true

/-! ### Channels (R72, R92, R94, R104, R105, R184) -/

/-- R94: the frame that the held unit stands at. -/
def unitFrame : HeldUnit → Frame
  | .job j => j.access.frame j.binding.device
  | .host r => r.current.access.frame r.current.device

/-- Figures 6-1 to 6-3: what each channel state goes with. The model hands a unit's next frame over in the claim that
ends the one before, so an IDLE channel holds no unit. -/
def stateFits (c : Channel) : Bool :=
  match c.state with
  | .off => c.held.isNone && decide (c.drain = .none) && !c.enabled
  | .idle => c.held.isNone && decide (c.drain = .none) && c.enabled
  | .busy => c.held.isSome && decide (c.drain = .none) && c.enabled
  | .draining =>
    c.held.isSome &&
      ((decide (c.drain = .disable) && !c.enabled) ||
        (decide (c.drain = .abort) && c.enabled && decide ((c.frame.bind FlyingFrame.rate).isSome)))
  | .halted => c.held.isNone && decide (c.drain = .none) && c.enabled

/-- R69, R71, R72: the Scan Scheduler's own ranges; EXPIRED exactly while an expiry is pending behind an open pass. -/
structure SchedLaw (c : Scheduler) : Prop where
  interval : 1 ≤ c.passInterval ∧ c.passInterval ≤ 65535
  length : c.scanLength ≤ 32
  position : ∀ q ∈ c.pass, q.position ≤ q.list.length
  expired : c.passTimer = .expired ↔ c.pendingExpiry = true
  pending : c.pendingExpiry = true → c.pass.isSome = true

/-- One channel: R92 and R102 (weight and counter), R108 (divider), R94 (the frame in flight is the held unit's), the
channel state, and R72 and R77 (the pass-interval timer is STOPPED exactly while the channel is OFF, with no pass open). -/
structure ChannelLaw (c : Channel) : Prop where
  weight : 1 ≤ c.hostWeight ∧ c.hostWeight ≤ 4
  turn : c.hostTurn ≤ c.hostWeight
  divider : 3 ≤ c.divider ∧ c.divider ≤ 63
  frame : c.frame.map FlyingFrame.frame = c.held.map unitFrame
  state : stateFits c = true
  sched : SchedLaw c.sched
  stopped : c.sched.passTimer = .stopped ↔ c.state = .off
  offPass : c.state = .off → c.sched.pass = none

/-- R184, R190: the drains that the timed-command state awaits are those that run; CHANNEL_ENABLE(off) awaits a disable,
CHANNEL_ABORT and SOFT_RESET an abort drain. -/
structure TimedLaw (s : State) : Prop where
  idle : s.cu.timed = none → s.ch0.drain = .none ∧ s.ch1.drain = .none
  waits : ∀ t ∈ s.cu.timed, t.wait0 = decide (s.ch0.drain ≠ .none) ∧ t.wait1 = decide (s.ch1.drain ≠ .none)
    ∧ (t.wait0 || t.wait1) = true
  kind : ∀ t ∈ s.cu.timed, (t.code = 17#8 ∧ s.ch0.drain ≠ .abort ∧ s.ch1.drain ≠ .abort) ∨
    ((t.code = 18#8 ∨ t.code = 20#8) ∧ s.ch0.drain ≠ .disable ∧ s.ch1.drain ≠ .disable)

/-- The laws of both channels. -/
structure ChannelsLaw (s : State) : Prop where
  ch0 : ChannelLaw s.ch0
  ch1 : ChannelLaw s.ch1
  timed : TimedLaw s

/-! ### Profiles and jobs (R38, R39, R43) -/

/-- R38, R43: every installed profile has a plan entry, and the profile of a bound port is installed. -/
structure ProfileLaw (s : State) : Prop where
  plan : ∀ n : Fin 8, ∀ f ∈ s.ps.profiles[n], f.plan ≠ []
  installed : ∀ p : PortId, (s.port p).bound = true → ∀ b ∈ (s.port p).binding, (s.profile b.profile).isSome = true

/-- R40, R181: the staging index, and the staging fields that are held as numbers, lie in their ranges. -/
structure StagingLaw (t : ProfileStore) : Prop where
  index : t.stagingIndex ≤ 17
  width : ∀ i : Item, (t.staging.recipes.get i).width ≤ 16
  length : t.staging.setupLength ≤ 8

/-- R39, R12, R62: a job that is not stale holds the channel of its port's binding, with that binding and its profile, in
the state its kind requires; a presence check is one piece. -/
def jobFits (s : State) (ch : Chan) (j : Job) : Prop :=
  (j.stale = false → (s.port j.port).binding = some j.binding ∧ j.binding.channel = ch ∧
    s.profile j.binding.profile = some j.profile ∧ (s.port j.port).state = j.kind.needs) ∧
  (j.kind = .presence → j.current = .presence ∧ j.todo = [])

/-- The job law of one channel. -/
def JobLaw (s : State) (ch : Chan) : Prop :=
  match (s.chan ch).held with
  | some (.job j) => jobFits s ch j
  | _ => True

/-! ### The work of a PROBING or LOST port (R45) -/

/-- A member of a port and kind waits on the probe queue of a channel. -/
def waits (c : Channel) (p : PortId) (k : ProbeKind) : Bool := c.sched.probes.any fun m => decide (m = (p, k))

/-- A job of a kind for the port, not marked stale, holds a channel. -/
def flies (c : Channel) (p : PortId) (k : DeviceKind) : Bool :=
  match c.held with
  | some (.job j) => decide (j.port = p) && decide (j.kind = k) && !j.stale
  | _ => false

/-- R45: exactly one of three kinds of work, counted over both channels. -/
def oneWork (s : State) (p : PortId) (k : ProbeKind) (timer : Option Nat) : Prop :=
  bitN (waits s.ch0 p k) + bitN (waits s.ch1 p k) + bitN (flies s.ch0 p k.unit) + bitN (flies s.ch1 p k.unit)
    + bitN timer.isSome = 1

/-- R45: a PROBING port waits on the probe queue, or has a probe job in flight, or its probe-retry timer runs, exactly
one of them; a LOST port likewise with presence checks and its lost-check timer. While SOFT_RESET drains the channels the
outcomes of jobs are discarded (R68), and the law waits for its end. -/
structure WorkLaw (s : State) : Prop where
  probing : s.cu.softResetting = false → ∀ p : PortId, (s.port p).state = .probing →
    oneWork s p .probe (s.port p).probeRetry
  lost : s.cu.softResetting = false → ∀ p : PortId, (s.port p).state = .lost →
    oneWork s p .presence (s.port p).lostCheck

/-! ### Indicator Engine (R156) -/

/-- Figure 9-1: the ranges of the engine's fields. -/
structure EngineLaw (e : IndicatorEngine) : Prop where
  halves : ∀ n : Fin 4, 1 ≤ e.slots[n].half ∧ e.slots[n].half ≤ 255
  pendings : ∀ n : Fin 4, ∀ h ∈ e.slots[n].pending, 1 ≤ h ∧ h ≤ 255
  width : 1 ≤ e.flashWidth ∧ e.flashWidth ≤ 25
  length : e.chainLength % 8 = 0 ∧ 8 ≤ e.chainLength ∧ e.chainLength ≤ 48
  refresh : e.refreshCount ≤ 4

/-! ### The whole part -/

/-- Every law of the part. -/
structure Lawful (s : State) : Prop where
  ports : PortLaw s.pt
  queue0 : QueueLaw s .ch0
  queue1 : QueueLaw s .ch1
  channels : ChannelsLaw s
  profiles : ProfileLaw s
  staging : StagingLaw s.ps
  job0 : JobLaw s .ch0
  job1 : JobLaw s .ch1
  work : WorkLaw s
  credit : CreditLaw s
  events : EventLaw s.ev
  engine : EngineLaw s.ie

/-! ### What the frames of a unit leave -/

/-- R109: a channel to which a job has handed the frame its access stands at. -/
def jobHanded (c : Channel) (j : Job) : Channel :=
  frameHanded c (.job j) (j.access.frame j.binding.device) j.profile.preamble

/-- R109: a channel to which a host unit has handed the frame its member at its turn stands at. -/
def hostHanded (c : Channel) (r : HostRun) : Channel :=
  frameHanded c (.host r) (r.current.access.frame r.current.device) ((r.current.profile.map Profile.preamble).getD false)

/-- R53, R60, R63: the state of its port that the results of a job require. -/
def requires : DeviceKind → PortState
  | .probe => .probing
  | .presence => .lost
  | .urgent => .active
  | .regular => .active

/-- R9, R11, R12, R54: the part after a job's piece with access `a` has handed its result over: the identity when its low
word is answered while the port is PROBING, and the fetch result of an answered fetch while the port is in the state the
job requires. Nothing is taken from a piece that got no answer, nor from a stale job. -/
def pieceHanded (x : State) (j : Job) (a : Access) : State :=
  if j.stale = true ∨ a.failed = true then x
  else if j.current = .identLow ∧ (x.port j.port).state = .probing then
    { x with pt := { x.pt with ports := x.pt.ports.set j.port (
      { x.port j.port with lastIdentity := some (j.identHigh.getD 0 ++ a.first.getD 0) }) } }
  else if j.current = .fetch ∧ (x.port j.port).state = requires j.kind then
    x.applyFetch
      { port := j.port, profile := j.profile, loc := a.loc, cause := if j.kind = .probe then .probe else .scan
        first := a.first.getD 0, second := a.second }
  else x

/-- R53, R60, R63, R100: the part after a job that is not stale has ended with an outcome. -/
def jobEnded (x : State) (ch : Chan) (j : Job) (o : JobOutcome) : State :=
  let y :=
    if (x.port j.port).state = requires j.kind then
      match j.kind with
      | .probe => x.probeOutcome j.port o
      | .presence => x.presenceOutcome j.port o
      | _ => x.scanOutcome j.port o
    else x
  y.setChan ch { y.chan ch with held := none }

/-- R53, R85: the part after a piece of a job has ended well: the next piece begins, or the job ends. -/
def jobNext (x : State) (ch : Chan) (j : Job) : State :=
  match j.todo with
  | [] => jobEnded x ch j .good
  | p :: rest =>
    x.setChan ch (jobHanded (x.chan ch) { j with current := p.kind, access := .start p.loc p.data, todo := rest })

/-- R132: the completion record of a host member whose access `a` has made its last frame. -/
def memberRecord (m : HostMember) (a : Access) : Completion :=
  if a.failed = true then ⟨m.txn, .noAnswer, none⟩
  else
    match m.txn.op with
    | .rawWrite .. => ⟨m.txn, .ok, none⟩
    | _ => ⟨m.txn, .ok, some (a.first.getD 0)⟩

/-- R131, R135, R136: `y` is `x` after a host member whose access `a` has made its last frame has offered what it read to
the Port Table: a RAW_READ of an item register of a bound port, and an ITEM_READ that is not stale, while the port is
ACTIVE; nothing else changes anything. -/
def MemberOffered (x y : State) (ch : Chan) (m : HostMember) (a : Access) : Prop :=
  let named := fun (p : PortId) (d reg : BusAddr) (f : Profile) =>
    (x.port p).state = .active ∧ (∃ b, (x.port p).binding = some b ∧ b.channel = ch ∧ b.device = d ∧
      x.profile b.profile = some f) ∧ ∃ i c, f.recipes.get i = some c ∧ c.loc = .direct reg
  (a.failed = true → y = x) ∧
  (∀ d reg w, m.txn.op = .rawWrite d reg w → y = x) ∧
  (∀ d reg, m.txn.op = .rawRead d reg → a.failed = false → UniqueLaw x.pt →
    (∀ p f, named p d reg f → y = x.applyFetch
      { port := p, profile := f, loc := .direct reg, cause := .host, first := a.first.getD 0, second := none }) ∧
    ((∀ p f, ¬named p d reg f) → y = x)) ∧
  ∀ p item n f, m.txn.op = .itemRead p item n → m.profile = some f → a.failed = false →
    ((m.stale = true ∨ (x.port p).state ≠ .active) → y = x) ∧
    (m.stale = false → (x.port p).state = .active → y = x.applyFetch
      { port := p, profile := f, loc := a.loc, cause := .host, first := a.first.getD 0, second := a.second })

/-! ### The checks of PROFILE_LOAD (R42) -/

/-- R42, Figure 2-8: a present recipe of an item fails one of the checks 1 to 6 and 9. -/
def checkFails (g : Staging) (n : Nat) (i : Item) (r : Recipe) : Prop :=
  match n with
  | 1 => r.width = 0 ∨ 16 < r.low + r.width
  | 2 => i ∈ [Item.link, .neg, .duplex, .rfault, .energy] ∧ r.width ≠ 1
  | 3 => i = .speed ∧ r.width ≠ 1 ∧ r.width ≠ 2
  | 4 => i = .count ∧ r.width ≠ 16
  | 5 =>
    ¬(r.latch = .plain ∧ i ≠ .count ∨ r.latch = .latchLow ∧ i = .link ∨ r.latch = .latchHigh ∧ i = .rfault ∨
      r.latch = .clearOnRead ∧ i = .count)
  | 6 => r.confirm = true ∧ r.latch ≠ .latchLow ∧ r.latch ≠ .latchHigh
  | 9 => g.markerPresent = true ∧ r.loc = g.marker.step.loc
  | _ => False

/-- R42, Figure 2-8: a staging record passes one of the checks 1 to 10. -/
def checkPasses (g : Staging) (n : Nat) : Prop :=
  match n with
  | 7 => ∀ r, g.recipe .partner = some r → ∃ q, g.recipe .neg = some q ∧ ∃ i c, g.recipe i = some c ∧ c.loc = q.loc ∧
      ∀ k d, g.recipe k = some d → d.loc = r.loc → i.index ≤ k.index
  | 8 => g.identPresent = true → g.identHigh.method = .direct ∧ g.identLow.method = .direct
  | 10 => ∃ i r, g.recipe i = some r
  | n => ∀ i r, g.recipe i = some r → ¬checkFails g n i r

/-! ### Frames of an access (R36, R37) -/

/-- The frames an access makes for a device when its frames end with the results given, in order; an access that needs
more results than are given stops at the frame that waits for one. -/
def accessFrames (device : BusAddr) (wants : Word → Bool) (a : Access) : List FrameResult → List Frame
  | [] => [a.frame device]
  | r :: rest =>
    a.frame device :: if (a.advance wants r).2 then [] else accessFrames device wants (a.advance wants r).1 rest

end Sys2Proof.Safety
end

