-- ==== Sys2Proof/WellFormed.lean ====
section
/-! DEFINITION. The checks an instruction's operands must pass to be a command of its row (R183, R175, R178).
Every other operand's range is its type. -/
namespace Sys2Proof

/-- R178, Figure 10-2: the addresses that have no row of their own: the argument words 0CH to 11H, the read-only
registers and the undefined addresses. -/
def plainAddress (a : BitVec 7) : Bool :=
  let n := a.toNat
  !(n == 0x08 || n == 0x09 || n == 0x0A || n == 0x0B || n == 0x12
    || (0x18 ≤ n && n ≤ 0x1B) || (0x40 ≤ n && n ≤ 0x44) || (0x48 ≤ n && n ≤ 0x4F)
    || (0x50 ≤ n && n ≤ 0x53) || (0x58 ≤ n && n ≤ 0x5B)
    || (0x60 ≤ n && n ≤ 0x63) || n == 0x66 || n == 0x67)

/-- The operands are those of the instruction's own row: UNKNOWN_COMMAND has a code above 20 (R183), and
REGISTER_WRITE an address with no row of its own (R175). -/
def Instr.wellFormed : Instr → Bool
  | .unknownCommand _ code => decide (20 < code.toNat)
  | .registerWrite addr _ => plainAddress addr
  | _ => true

end Sys2Proof
end

