-- ==== Sys2Proof/Certificates/Slice0/Obligations.lean ====
section
/-! DEFINITION. The statements for the provers, in the order of the manual's blocks. -/

open Sys2Proof Sys2Proof.Machine Sys2Proof.Safety

/-! ### The step, the pins and the window -/

/-- A step takes the command at the front of the queue with the queue's rest, and idles on an empty queue. The queue is
the model's own (assumption 5). -/
def Obligations.StepTakesFrontCommand : Prop :=
  (∀ (s : State) (c : Instr) (rest : List Instr), s.pending = c :: rest →
    step s = exec c { s with pending := rest }) ∧
  ∀ s : State, s.pending = [] → step s = .next s

/-- R176, R154: the rows of RSTN give every block its reset values and keep the waiting commands; while RSTN is low
every other row changes nothing, and IRQN is high. That the waiting commands are kept, and that RESET_RELEASE gives the
power-on values with RSTN already high too, are the model's choices (assumption 14). -/
def Obligations.ResetPinTakesPowerOnValues : Prop :=
  (∀ s : State, exec .resetAssert s = .next { State.reset with rstnLow := true, pending := s.pending }) ∧
  (∀ s : State, exec .resetRelease s = .next { State.reset with pending := s.pending }) ∧
  (∀ (i : Instr) (s : State), s.rstnLow = true → isReset i = false → exec i s = .next s) ∧
  (∀ s : State, s.rstnLow = true → s.irqn = true) ∧ State.reset.irqn = true

/-- §§1.8, 2.6, 3.8, 4.8, 5.8, 6.10, 7.8, 8.7, 9.8, 10.6: every value after power-on / RSTN, field by field, and the
words of the window that show them. The count of BINDs, the level of MDIO noted, the refresh due, the levels last sent and
the command queue are the model's own (assumptions 15, 10, 18, 5), as are the slots of the two OFF patterns of a record
(assumption 13) and the bits of 02H without a field (assumption 24). -/
def Obligations.ResetValuesOfThePart : Prop :=
  let none8 : PerItem (Option ItemValue) := ⟨none, none, none, none, none, none, none, none⟩
  let clear8 : PerItem Bool := ⟨false, false, false, false, false, false, false, false⟩
  let loc : StagedLoc := ⟨.direct, false, 0, 0, 0, 0⟩
  let recipe : StagedRecipe := ⟨loc, false, 0, 0, .normal, .plain, false⟩
  State.reset.rstnLow = false ∧ State.reset.stamp = 0 ∧ State.reset.pending = [] ∧ State.reset.spi = .idle ∧
  State.reset.pt.view = none ∧
  (∀ p : PortId, State.reset.port p =
    { state := .unbound, reason := none, binding := none, missCount := 0, attemptCount := 0, mirror := none8
      changed := clear8, stickyDown := false, stickyFault := false, accumulator := 0, saturated := false
      lastIdentity := none, lastGood := none, resync := false, probeRetry := none, lostCheck := none, bindings := 0 }) ∧
  (State.reset.pt.missLimit, State.reset.pt.attemptLimit, State.reset.pt.retryInterval, State.reset.pt.lostInterval)
    = (3, 4, 50, 1000) ∧
  (∀ n : Fin 8, State.reset.profile n = none) ∧ State.reset.ps.stagingIndex = 0 ∧
  State.reset.ps.staging =
    { recipes := ⟨recipe, recipe, recipe, recipe, recipe, recipe, recipe, recipe⟩
      steps := Vector.replicate 8 ⟨loc, 0⟩, marker := ⟨loc, 0⟩, markerPresent := false, identPresent := false
      identHigh := ⟨.direct, 0⟩, identLow := ⟨.direct, 0⟩, speedMap := ⟨.s10, .s10, .s10, .s10⟩, preamble := false
      setupLength := 0 } ∧
  (∀ ch : Chan, State.reset.chan ch =
    { sched :=
        { scanList := Vector.replicate 32 0, scanLength := 0, pass := none, pendingExpiry := false, passInterval := 100
          passTimer := .stopped, overrun := false, urgent := [], probes := [] }
      hostWeight := 1, hostTurn := 1, held := none, state := .off, enabled := false, divider := 7, established := 0
      frame := none, drain := .none, hostQueue := [], chainOpen := false, mdioHigh := true }) ∧
  State.reset.att = { levels := 0, sets := #v[0, 0, 0, 0], holding := 0 } ∧
  State.reset.ht = { completions := [], outstanding := 0, view := none } ∧
  State.reset.ev =
    { queue := [], overflow := false, threshold := 1, holdoff := 0, timer := .stopped, ovf := false, chf := false
      enables := ⟨false, false, false, false⟩, view := none } ∧
  State.reset.ie =
    { records := Vector.replicate 48
        { condition := .none, speed := .s10, states := ⟨false, false, false, false, false⟩, channel := .ch0, port := 0
          whenTrue := ⟨.off, 0⟩, whenFalse := ⟨.off, 0⟩, activeHigh := true, override := none }
      slots := #v[⟨25, none, true, 250⟩, ⟨50, none, true, 500⟩, ⟨10, none, true, 100⟩, ⟨100, none, true, 1000⟩]
      flashWidth := 5, flash := Vector.replicate 24 ⟨.idle, 0, false⟩, chainLength := 8, refreshCount := 0
      refreshDue := false, index := 0, shifted := [] } ∧
  State.reset.cu =
    { command := 0, args := #v[0, 0, 0, 0, 0, 0], result := ⟨.none, 0, 0, none⟩, timed := none, lastTimed := none } ∧
  State.reset.readWord 0x00 = 0x2410 ∧ State.reset.readWord 0x01 = 0x0001 ∧
  (∀ n : Fin 6, State.reset.readWord (BitVec.ofNat 7 (0x0C + n.val)) = 0) ∧ State.reset.readWord 0x02 = 0 ∧
  State.reset.readWord 0x12 = 0 ∧ State.reset.readWord 0x13 = 0 ∧ State.reset.readWord 0x14 = 0

/-- The state after power-on / RSTN keeps every law. Two of the laws rest on assumptions 6 and 17. -/
def Obligations.ResetStateIsLawful : Prop := Lawful State.reset

/-- R185: while a timed command is in progress every command is refused with BUSY and every checked write too, and
nothing but the command register and the result registers changes. -/
def Obligations.TimedCommandRefusesWithBusy : Prop :=
  ∀ (i : Instr) (s : State), s.rstnLow = false → s.cu.timed.isSome = true →
    (∀ hi code, commandOf i = some (hi, code) → exec i s = .next { s with cu := shown s.cu hi code .busy 0 none }) ∧
    (∀ a, checkedOf i = some a → exec i s = .next { s with cu := checkedShown s.cu a .busy })

/-- R183, R187, R189: whatever a command does, the command register reads back the word, the argument words are kept, the
source shown is the code, and a result is shown; a checked write keeps the command register and the arguments and shows
80H plus its address. -/
def Obligations.CommandsShowTheirSource : Prop :=
  ∀ (i : Instr) (s : State), s.rstnLow = false →
    (∀ hi code, commandOf i = some (hi, code) → ∃ t, exec i s = .next t ∧ t.cu.command = hi ++ code ∧
      t.cu.args = s.cu.args ∧ t.cu.result.source = code ∧ t.cu.result.code ≠ .none) ∧
    (∀ a, checkedOf i = some a → ∃ t, exec i s = .next t ∧ t.cu.command = s.cu.command ∧ t.cu.args = s.cu.args ∧
      t.cu.timed = s.cu.timed ∧ t.cu.result.source = 0x80#8 ||| a.setWidth 8 ∧ t.cu.result.code ≠ .none)

/-- R188: NOP changes only the result registers and the command register; R183: a code above 20 is refused with BAD_ARG,
sub-code 14, its source the code (assumption 19); R175, R178, R189: a write with no row of its own stores an argument word
or is ignored. -/
def Obligations.NopUnknownCodeAndPlainWrites : Prop :=
  (∀ (hi : BitVec 8) (s : State), Ready s → exec (.nop hi) s = .next { s with cu := shown s.cu hi 0 .done 0 none }) ∧
  (∀ (hi code : BitVec 8) (s : State), Ready s → 20 < code.toNat →
    exec (.unknownCommand hi code) s = .next { s with cu := shown s.cu hi code .badArg 14 none }) ∧
  (∀ (n : Fin 6) (v : Word) (s : State), s.rstnLow = false →
    ∃ t, exec (.registerWrite (BitVec.ofNat 7 (0x0C + n.val)) v) s = .next t ∧
      t = { s with cu := { s.cu with args := t.cu.args } } ∧
      t.readWord (BitVec.ofNat 7 (0x0C + n.val)) = v ∧
      ∀ m : Fin 6, m ≠ n → t.cu.args[m] = s.cu.args[m]) ∧
  ∀ (a : BitVec 7) (v : Word) (s : State), plainAddress a = true → (a.toNat < 0x0C ∨ 0x11 < a.toNat) →
    exec (.registerWrite a v) s = .next s

/-- R175, R178, R183: the row that a written word is, by its address and the argument words, is a command of its
row, and does what the word written at that address does to the window. Which row a word is rests on assumptions 4
and 10. -/
def Obligations.WrittenWordIsItsRow : Prop :=
  ∀ (s : State) (a : BitVec 7) (v : Word), s.rstnLow = false →
    (s.writeRow a v).wellFormed = true ∧ exec (s.writeRow a v) s = .next (s.writeWord a v)

/-- R174, R175: a write transaction of the command byte, some whole words and a partial word writes the words to
addresses that go up by 1 and wrap from 7FH to 00H, and discards the partial word; a read command byte writes nothing. -/
def Obligations.SpiBurstWritesItsWords : Prop :=
  ∀ (a : BitVec 7) (ws : List Word) (tail : List Bool), tail.length < 16 →
    let byte := fun (r : Bool) => r :: (List.range 7).map fun k => a.getLsbD (6 - k)
    (spiWrites (byte false ++ ws.flatMap wordBits ++ tail)).length = ws.length ∧
    (∀ (k : Nat) (w : Word), ws[k]? = some w →
      (spiWrites (byte false ++ ws.flatMap wordBits ++ tail))[k]? = some (BitVec.ofNat 7 (a.toNat + k), w)) ∧
    spiWrites (byte true ++ ws.flatMap wordBits ++ tail) = []

/-- R179, R121, R158, R107, R111, R171, R172, R174, R175, R176: what the host and the wires see of the state. R154,
R178, R180, R181, R187, R192: the identification words, the global status words, the interrupt causes and enables, the
result registers, the attention sets, the words of a channel, of the indexed indicator record with its override, and
of the rate slots, field by field; the words that hold one value; the views without a record, the staging part, and
the addresses that Figure 10-2 does not list. The pins of a management channel and of the indicator chain; and the SPI
port: SDO, and a transaction taken edge by edge as its words written in order. The model's choices are which bit shows
which profile (assumption 23), that the levels of MDIO come with the edges (assumptions 10, 11), that a pattern keeps
its slot under every kind (assumption 13), and that bits without a field (assumption 24) and fields whose value is
absent (assumption 26) read 0. -/
def Obligations.WindowAndPinsShowTheState : Prop :=
  (∀ s : State,
    s.readWord 0x00 = 0x2410 ∧ s.readWord 0x01 = 0x0001 ∧
    (∀ t, s.cu.timed = some t → t.code.toNat ≤ 20 →
      (s.readWord 0x02).getLsbD 0 = true ∧ bits (s.readWord 0x02) 1 5 = t.code.toNat) ∧
    (s.cu.timed = none → (s.readWord 0x02).getLsbD 0 = false) ∧
    (∀ code r, s.cu.lastTimed = some (code, r) → code.toNat ≤ 20 → (∀ t ∈ s.cu.timed, t.code.toNat ≤ 20) →
      (s.cu.timed = none → bits (s.readWord 0x02) 1 5 = code.toNat) ∧
      ∀ x ∈ resultCodes, r = x.1 → bits (s.readWord 0x02) 6 4 = x.2) ∧
    (s.cu.lastTimed = none → (∀ t ∈ s.cu.timed, t.code.toNat ≤ 20) →
      (s.cu.timed = none → bits (s.readWord 0x02) 1 5 = 0) ∧ bits (s.readWord 0x02) 6 4 = 0) ∧
    ((∀ t ∈ s.cu.timed, t.code.toNat ≤ 20) → (∀ l ∈ s.cu.lastTimed, l.1.toNat ≤ 20) →
      (s.readWord 0x02).getLsbD 10 = s.ev.overflow) ∧
    (s.ht.outstanding ≤ 16 → s.ch0.hostQueue.length ≤ 8 → s.ch1.hostQueue.length ≤ 8 →
      bits (s.readWord 0x03) 0 5 = s.ht.outstanding ∧ bits (s.readWord 0x03) 5 4 = s.ch0.hostQueue.length ∧
      bits (s.readWord 0x03) 9 4 = s.ch1.hostQueue.length ∧ (s.readWord 0x03).getLsbD 13 = s.ch0.chainOpen ∧
      (s.readWord 0x03).getLsbD 14 = s.ch1.chainOpen) ∧
    (s.ev.queue.length ≤ 64 → bits (s.readWord 0x04) 0 7 = s.ev.queue.length ∧
      ∀ n : Fin 8, (s.readWord 0x04).getLsbD (8 + n.val) = (s.profile n).isSome) ∧
    (∀ n : Fin 6, s.readWord (BitVec.ofNat 7 (0x0C + n.val)) = s.cu.args[n]) ∧ s.readWord 0x12 = s.cu.command ∧
    ((s.readWord 0x08).getLsbD 0 = s.ev.evq ∧ (s.readWord 0x08).getLsbD 1 = s.ht.cmpl ∧
      (s.readWord 0x08).getLsbD 2 = s.ev.ovf ∧ (s.readWord 0x08).getLsbD 3 = s.ev.chf) ∧
    ((s.readWord 0x09).getLsbD 0 = s.ev.enables.evq ∧ (s.readWord 0x09).getLsbD 1 = s.ev.enables.cmpl ∧
      (s.readWord 0x09).getLsbD 2 = s.ev.enables.ovf ∧ (s.readWord 0x09).getLsbD 3 = s.ev.enables.chf) ∧
    ((∀ x ∈ resultCodes, s.cu.result.code = x.1 → bits (s.readWord 0x13) 0 4 = x.2) ∧
      bits (s.readWord 0x13) 4 8 = s.cu.result.sub.toNat ∧ bits (s.readWord 0x14) 0 8 = s.cu.result.source.toNat ∧
      (s.readWord 0x14).getLsbD 12 = s.cu.result.item.isSome ∧
      (∀ i, s.cu.result.item = some i → bits (s.readWord 0x14) 8 4 = i.index) ∧
      (s.cu.result.item = none → bits (s.readWord 0x14) 8 4 = 0)) ∧
    (∀ (n : Fin 4) (p : Fin 24), s.att.sets[n].getLsbD p.val =
      if p.val < 16 then (s.readWord (BitVec.ofNat 7 (0x48 + 2 * n.val))).getLsbD p.val
      else (s.readWord (BitVec.ofNat 7 (0x49 + 2 * n.val))).getLsbD (p.val - 16)) ∧
    (s.readWord 0x0A = BitVec.ofNat 16 s.ev.threshold ∧ s.readWord 0x0B = BitVec.ofNat 16 s.ev.holdoff ∧
      s.readWord 0x18 = BitVec.ofNat 16 s.pt.missLimit ∧ s.readWord 0x19 = BitVec.ofNat 16 s.pt.attemptLimit ∧
      s.readWord 0x1A = BitVec.ofNat 16 s.pt.retryInterval ∧ s.readWord 0x1B = BitVec.ofNat 16 s.pt.lostInterval ∧
      s.readWord 0x40 = BitVec.ofNat 16 s.ps.stagingIndex ∧ s.readWord 0x60 = BitVec.ofNat 16 s.ie.index.val ∧
      s.readWord 0x66 = BitVec.ofNat 16 s.ie.chainLength ∧ s.readWord 0x67 = BitVec.ofNat 16 s.ie.flashWidth) ∧
    (∀ n : Fin 4, s.readWord (BitVec.ofNat 7 (0x41 + n.val)) = s.ps.staging.read (stagingPart s.ps.stagingIndex) n) ∧
    (s.pt.view = none → ∀ n : Fin 16, s.readWord (BitVec.ofNat 7 (0x20 + n.val)) = 0) ∧
    (s.ev.view = none → ∀ n : Fin 8, s.readWord (BitVec.ofNat 7 (0x30 + n.val)) = 0) ∧
    (s.ht.view = none → ∀ n : Fin 4, s.readWord (BitVec.ofNat 7 (0x38 + n.val)) = 0) ∧
    (∀ a, unlisted a → s.readWord a = 0) ∧
    (let r := s.ie.records[s.ie.index];
      (∀ x ∈ conditionCodes, r.condition = x.1 → bits (s.readWord 0x61) 0 4 = x.2) ∧
      bits (s.readWord 0x61) 4 5 = r.port.val ∧ (s.readWord 0x61).getLsbD 9 = !r.activeHigh ∧
      (∀ x ∈ speedCodes, r.speed = x.1 → bits (s.readWord 0x62) 0 2 = x.2) ∧ (s.readWord 0x62).getLsbD 2 = false ∧
      (s.readWord 0x62).getLsbD 3 = r.states.probing ∧ (s.readWord 0x62).getLsbD 4 = r.states.active ∧
      (s.readWord 0x62).getLsbD 5 = r.states.lost ∧ (s.readWord 0x62).getLsbD 6 = r.states.suspended ∧
      (s.readWord 0x62).getLsbD 7 = r.states.failed ∧ (s.readWord 0x62).getLsbD 8 = decide (r.channel = .ch1) ∧
      (∀ x ∈ patternCodes, (r.whenTrue.kind = x.1 → bits (s.readWord 0x63) 0 3 = x.2) ∧
        (r.whenFalse.kind = x.1 → bits (s.readWord 0x63) 8 3 = x.2) ∧
        ∀ o, r.override = some o → o.pattern.kind = x.1 → bits (s.readWord 0x64) 1 3 = x.2) ∧
      bits (s.readWord 0x63) 3 2 = r.whenTrue.slot.val ∧ bits (s.readWord 0x63) 11 2 = r.whenFalse.slot.val) ∧
    s.readWord 0x05 = s.stamp ∧ (s.ht.completions.length ≤ 16 → bits (s.readWord 0x06) 0 5 = s.ht.completions.length) ∧
    (∀ n : Fin 4, (s.readWord 0x07).getLsbD n.val = s.att.levels.getLsbD n.val) ∧
    (∀ ch : Chan,
      let c := s.chan ch
      let at' := fun (n : Nat) => s.readWord (BitVec.ofNat 7 ((if ch = .ch0 then 0x50 else 0x58) + n))
      let w := at' 3
      at' 0 = BitVec.ofNat 16 c.divider ∧ at' 1 = BitVec.ofNat 16 c.sched.passInterval ∧
      at' 2 = BitVec.ofNat 16 c.hostWeight ∧ at' 5 ++ at' 4 = c.established ∧ (c.hostTurn ≤ 4 →
        (∀ x ∈ [(ChanState.off, 0), (.idle, 1), (.busy, 2), (.draining, 3), (.halted, 4)],
          c.state = x.1 → bits w 0 3 = x.2) ∧
        w.getLsbD 3 = c.enabled ∧ w.getLsbD 4 = c.sched.overrun ∧ bits w 13 3 = c.hostTurn ∧
        (c.held = none → bits w 5 3 = 0 ∧ bits w 8 5 = 0) ∧
        (∀ j, c.held = some (.job j) → bits w 8 5 = j.port.val ∧
          ∀ x ∈ [(DeviceKind.probe, 1), (.presence, 2), (.urgent, 3), (.regular, 4)], j.kind = x.1 → bits w 5 3 = x.2) ∧
        (∀ r, c.held = some (.host r) → bits w 5 3 = 5 ∧ bits w 8 5 = 0))) ∧
    (s.ie.records[s.ie.index].override = none → s.readWord 0x64 = 0 ∧ s.readWord 0x65 = 0) ∧
    (∀ o, s.ie.records[s.ie.index].override = some o →
      (s.readWord 0x64).getLsbD 0 = true ∧ bits (s.readWord 0x64) 1 3 = o.pattern.kind.code ∧
      bits (s.readWord 0x64) 4 2 = o.pattern.slot.val ∧ (s.readWord 0x64).getLsbD 6 = o.timer.isSome ∧
      (o.timer = none → s.readWord 0x65 = 0) ∧ ∀ n, o.timer = some n → n ≤ 65535000 →
        (s.readWord 0x65).toNat * 1000 < n + 1000 ∧ n ≤ (s.readWord 0x65).toNat * 1000) ∧
    ∀ n : Fin 4,
      let r := s.ie.slots[n]
      let w := s.readWord (BitVec.ofNat 7 (0x68 + 2 * n.val))
      let q := s.readWord (BitVec.ofNat 7 (0x69 + 2 * n.val))
      r.half ≤ 255 → (∀ h ∈ r.pending, h ≤ 255) →
        bits w 0 8 = r.half ∧ w.getLsbD 15 = r.phaseOn ∧ bits q 0 8 = r.pending.getD 0 ∧ q.getLsbD 15 = r.pending.isSome) ∧
  (∀ (s : State) (ch : Chan) (k : Nat),
    ((s.rstnLow = true ∨ started (s.chan ch) = false) → s.busPins ch k = ⟨false, .released⟩) ∧
    ∀ f, s.rstnLow = false → (s.chan ch).frame = some f → f.rate.isSome = true →
      (∀ n d, (f.frame.wire f.preamble)[n]? = some d →
        s.busPins ch (2 * n) = ⟨false, d⟩ ∧ s.busPins ch (2 * n + 1) = ⟨true, d⟩) ∧
      (2 * (f.frame.wire f.preamble).length ≤ k → s.busPins ch k = ⟨false, .released⟩)) ∧
  (∀ (f : Frame) (pre : Bool) (line : Nat → Bool),
    let start := if pre = true then 32 else 0
    (f.op ≠ .read → f.sampled pre line = none) ∧
    (f.op = .read → ∃ w, f.sampled pre line = some (line (start + 15), w) ∧
      ∀ k : Fin 16, w.getLsbD (15 - k.val) = line (start + 16 + k.val))) ∧
  (∀ (s : State) (k : Nat),
    let l := s.ie.shifted
    ((s.rstnLow = true ∨ l = [] ∨ 2 * l.length + 2 ≤ k) → s.chainPins k = ⟨false, false, false⟩) ∧
    (s.rstnLow = false →
      (∀ n b, n < l.length → l[l.length - 1 - n]? = some b →
        s.chainPins (2 * n) = ⟨false, b, false⟩ ∧ s.chainPins (2 * n + 1) = ⟨true, b, false⟩) ∧
      (∀ b, l.head? = some b → 2 * l.length ≤ k → k < 2 * l.length + 2 → s.chainPins k = ⟨false, b, true⟩))) ∧
  ∀ s : State,
    ((s.rstnLow = true ∨ s.spi = .idle) → s.sdo = none) ∧
    (s.rstnLow = false →
      (∀ b, s.spi = .command b → s.sdo = some false) ∧ (∀ a b, s.spi = .writing a b → s.sdo = some false) ∧
      (∀ a b l, s.spi = .reading a b l → s.sdo = some b) ∧
      (∀ a b x l, s.spi = .reading a b (x :: l) → s.spiEdge .fall = { s with spi := .reading a x l }) ∧
      (∀ a b, s.spi = .reading a b [] → s.spiEdge .fall =
        { s with spi := .reading (a + 1) ((s.readWord a).getLsbD 15) ((wordBits (s.readWord a)).drop 1) }) ∧
      s.spiEdge .select = { s with spi := .command [] } ∧ s.spiEdge .deselect = { s with spi := .idle } ∧
      (s.spi = .idle → s.spiEdge .fall = s ∧ ∀ d m0 m1, s.spiEdge (.rise d m0 m1) = s) ∧
      ∀ (bits : List Bool) (m0 m1 : Bool), s.takeSpi bits m0 m1 =
        (spiWrites bits).foldl (fun x w =>
          { (State.noteLines { x with spi := .writing w.1 ((wordBits w.2).take 15) } m0 m1).writeWord w.1 w.2 with
            spi := .idle }) { s with spi := .idle }) ∧
    (s.rstnLow = true → ∀ e, s.spiEdge e = s)

/-! ### Port Table: commands (Chapters 1 and 3) -/

/-- R49, R26, R47: UNBIND of a bound port: the record takes its values, the port leaves its queue and its timers,
what is in flight is stale, and one STATE_CHANGE event is posted. The count `bindings` is the model's own
(assumption 15). -/
def Obligations.UnbindEndsSupervision : Prop :=
  ∀ (hi : BitVec 8) (s : State) (p : PortId), Ready s → s.argTarget = p.val → (s.port p).state ≠ .unbound →
    let e := s.ev.take (.stateChange p (s.port p).state .unbound (some .host)) s.stamp
    exec (.unbind hi) s = .next
      { s with
        cu := shown s.cu hi 2 .done 0 none
        ev := e.1
        pt := { s.pt with ports := s.pt.ports.set p (reported
          { PortRec.reset with
            reason := some .host, resync := (s.port p).resync, bindings := (s.port p).bindings } e.2) }
        ch0 := leaving s.ch0 .ch0 (s.port p) p
        ch1 := leaving s.ch1 .ch1 (s.port p) p }

/-- R50, R47: SUSPEND from PROBING, ACTIVE or LOST: only the state, the reason, the timers and RESYNC of the record
change. -/
def Obligations.SuspendFreezesTheRecord : Prop :=
  ∀ (hi : BitVec 8) (s : State) (p : PortId), Ready s → s.argTarget = p.val →
    ((s.port p).state = .probing ∨ (s.port p).state = .active ∨ (s.port p).state = .lost) →
    let e := s.ev.take (.stateChange p (s.port p).state .suspended (some .host)) s.stamp
    exec (.suspend hi) s = .next
      { s with
        cu := shown s.cu hi 3 .done 0 none
        ev := e.1
        pt := { s.pt with ports := s.pt.ports.set p (reported
          { s.port p with
            state := .suspended, reason := some .host, probeRetry := none, lostCheck := none } e.2) }
        ch0 := leaving s.ch0 .ch0 (s.port p) p
        ch1 := leaving s.ch1 .ch1 (s.port p) p }

/-- R48 (e), R51, R52, R58, R62, R26, R47, R95: BIND of an UNBOUND port with an installed profile and a free bus place;
RESUME from SUSPENDED and RETRY from FAILED; and the expiries of a port's two timers. Each places its port at the tail of
the probe queue of its channel, which is a notice to the channel's arbiter. The count `bindings` is the model's own
(assumption 15); a timer that is not due expires for nobody (assumption 3). -/
def Obligations.PortsJoinTheProbeQueue : Prop :=
  (∀ (hi : BitVec 8) (s : State) (p : PortId) (b : Binding), Ready s →
    s.argTarget = p.val → s.argChannel = chanNumber b.channel → s.argDevice = b.device.toNat →
    s.argRegister = b.profile.val → b.expected = (if s.argIdentityPresent then some s.argIdentity else none) →
    b.ignoreRevision = s.argIgnoreRevision →
    (s.port p).state = .unbound → (s.profile b.profile).isSome = true →
    (∀ q : PortId, (s.port q).bound = true →
      (s.port q).binding.map (fun c => (c.channel, c.device)) ≠ some (b.channel, b.device)) →
    let e := s.ev.take (.stateChange p .unbound .probing (some .host)) s.stamp
    ∃ t, exec (.bind hi) s = .next t ∧
      DecidedFrom
        { s with
          cu := shown s.cu hi 1 .done 0 none
          ev := e.1
          pt := { s.pt with ports := s.pt.ports.set p (reported
            { PortRec.reset with
              state := .probing, reason := some .host, binding := some b, stickyDown := true
              resync := (s.port p).resync, bindings := (s.port p).bindings + 1 } e.2) }
          ch0 := joining s.ch0 .ch0 b.channel p .probe
          ch1 := joining s.ch1 .ch1 b.channel p .probe } t b.channel) ∧
  (∀ (hi : BitVec 8) (s : State) (p : PortId) (b : Binding) (i : Instr) (from' : PortState) (why : Reason)
    (code : BitVec 8), Ready s → s.argTarget = p.val → (s.port p).binding = some b → (s.port p).state = from' →
    ((i = .resume hi ∧ from' = .suspended ∧ why = .resumed ∧ code = 4) ∨
      (i = .retry hi ∧ from' = .failed ∧ why = .retry ∧ code = 5)) →
    let e := s.ev.take (.stateChange p from' .probing (some why)) s.stamp
    ∃ t, exec i s = .next t ∧
      DecidedFrom
        { s with
          cu := shown s.cu hi code .done 0 none
          ev := e.1
          pt := { s.pt with ports := s.pt.ports.set p (reported
            { s.port p with
              state := .probing, reason := some why, attemptCount := 0, probeRetry := none, lostCheck := none } e.2) }
          ch0 := joining s.ch0 .ch0 b.channel p .probe
          ch1 := joining s.ch1 .ch1 b.channel p .probe } t b.channel) ∧
  ∀ (s : State) (p : PortId), s.rstnLow = false →
    (∀ b, (s.port p).binding = some b → (s.port p).probeRetry = some 0 → ∃ t,
      exec (.probeRetryExpiry p) s = .next t ∧
      DecidedFrom
        { s with
          pt := { s.pt with ports := s.pt.ports.set p { s.port p with probeRetry := none } }
          ch0 := joining s.ch0 .ch0 b.channel p .probe
          ch1 := joining s.ch1 .ch1 b.channel p .probe } t b.channel) ∧
    (∀ b, (s.port p).binding = some b → (s.port p).lostCheck = some 0 → ∃ t,
      exec (.lostCheckExpiry p) s = .next t ∧
      DecidedFrom
        { s with
          pt := { s.pt with ports := s.pt.ports.set p { s.port p with lostCheck := none } }
          ch0 := joining s.ch0 .ch0 b.channel p .presence
          ch1 := joining s.ch1 .ch1 b.channel p .presence } t b.channel) ∧
    ((s.port p).probeRetry ≠ some 0 → exec (.probeRetryExpiry p) s = .next s) ∧
    ((s.port p).lostCheck ≠ some 0 → exec (.lostCheckExpiry p) s = .next s)

/-- R1, R22, R24, R48 to R52: the refusals of the commands of the Port Table, in their order; a refused command changes
only the Command Unit. -/
def Obligations.RefusedPortCommandsChangeNoRecord : Prop :=
  ∀ (hi : BitVec 8) (s : State), Ready s →
    (∀ i code, (i, code) ∈ [(Instr.unbind hi, (2 : BitVec 8)), (.suspend hi, 3), (.resume hi, 4), (.retry hi, 5),
        (.ack hi, 6), (.snapshot hi, 7)] → 23 < s.argTarget →
      exec i s = .next { s with cu := shown s.cu hi code .badArg 0 none }) ∧
    ((23 < s.argTarget ∨ 1 < s.argChannel ∨ 31 < s.argDevice ∨ 7 < s.argRegister) →
      exec (.bind hi) s = .next { s with cu := shown s.cu hi 1 .badArg 0 none }) ∧
    (∀ p : PortId, s.argTarget = p.val →
      ((s.port p).state = .unbound →
        exec (.unbind hi) s = .next { s with cu := shown s.cu hi 2 .badState 0 none } ∧
        exec (.ack hi) s = .next { s with cu := shown s.cu hi 6 .badState 0 none }) ∧
      (((s.port p).state = .unbound ∨ (s.port p).state = .failed ∨ (s.port p).state = .suspended) →
        exec (.suspend hi) s = .next { s with cu := shown s.cu hi 3 .badState 0 none }) ∧
      ((s.port p).state ≠ .suspended → exec (.resume hi) s = .next { s with cu := shown s.cu hi 4 .badState 0 none }) ∧
      ((s.port p).state ≠ .failed → exec (.retry hi) s = .next { s with cu := shown s.cu hi 5 .badState 0 none })) ∧
    (∀ (p : PortId) (ch : Chan) (n : Fin 8), s.argTarget = p.val → s.argChannel = chanNumber ch → s.argDevice ≤ 31 →
      s.argRegister = n.val →
      ((s.port p).state ≠ .unbound → exec (.bind hi) s = .next { s with cu := shown s.cu hi 1 .badState 0 none }) ∧
      ((s.port p).state = .unbound → s.profile n = none →
        exec (.bind hi) s = .next { s with cu := shown s.cu hi 1 .badArg 11 none }) ∧
      ((s.port p).state = .unbound → (s.profile n).isSome = true →
        (∃ q : PortId, (s.port q).bound = true ∧ (s.port q).binding.map (fun b => (b.channel, b.device.toNat)) =
          some (ch, s.argDevice)) →
        exec (.bind hi) s = .next { s with cu := shown s.cu hi 1 .conflict 0 none }))

/-- R22: ACK. -/
def Obligations.AckAcknowledgesWhatItNames : Prop :=
  ∀ (hi : BitVec 8) (s : State), Ready s →
    (23 < s.argTarget → exec (.ack hi) s = .next { s with cu := shown s.cu hi 6 .badArg 0 none }) ∧
    ∀ p : PortId, s.argTarget = p.val →
      ((s.port p).state = .unbound → exec (.ack hi) s = .next { s with cu := shown s.cu hi 6 .badState 0 none }) ∧
      ((s.port p).state ≠ .unbound → ∃ changed : PerItem Bool,
        (∀ i : Item, changed.get i = ((s.port p).changed.get i && !bit (s.arg 5) i.index)) ∧
        exec (.ack hi) s = .next
          { s with
            cu := shown s.cu hi 6 .done 0 none
            pt := { s.pt with ports := s.pt.ports.set p (
              { s.port p with
                changed := changed
                stickyDown := if bit (s.arg 5) 0 = true ∧ (s.port p).mirror.link = some (.flag true) then false
                  else (s.port p).stickyDown
                stickyFault := if bit (s.arg 5) 4 = true ∧ (s.port p).mirror.rfault = some (.flag false) then false
                  else (s.port p).stickyFault
                accumulator := if bit (s.arg 5) 8 then 0 else (s.port p).accumulator
                saturated := if bit (s.arg 5) 8 then false else (s.port p).saturated }) } })

/-- R24: SNAPSHOT, and the words of the view that R180 and Figure 10-4 give for the record copied, field by field.
That the bits of 22H without a field read 0 is the model's choice (assumption 24). -/
def Obligations.SnapshotCopiesTheRecord : Prop :=
  ∀ (hi : BitVec 8) (s : State), Ready s →
    (23 < s.argTarget → exec (.snapshot hi) s = .next { s with cu := shown s.cu hi 7 .badArg 0 none }) ∧
    ∀ p : PortId, s.argTarget = p.val → ∃ t, exec (.snapshot hi) s = .next t ∧
      t = { s with
        cu := shown s.cu hi 7 .done 0 none
        pt := { s.pt with
          view := some ⟨p, s.stamp, s.port p⟩
          ports := s.pt.ports.set p { s.port p with resync := false } } } ∧
      t.readWord 0x21 = s.stamp ∧ t.readWord 0x2F = 0 ∧ t.readWord 0x28 = (s.port p).lastGood.getD 0 ∧
      ShowsValue (t.readWord 0x2B) (s.port p).mirror.partner ∧ ShowsValue (t.readWord 0x2C) (s.port p).mirror.count ∧
      t.readWord 0x2D ++ t.readWord 0x2E = (s.port p).accumulator ∧
      t.readWord 0x26 ++ t.readWord 0x27 = (s.port p).lastIdentity.getD 0 ∧
      (t.readWord 0x20).getLsbD 15 = true ∧ (t.readWord 0x20).getLsbD 14 = (s.port p).resync ∧
      bits (t.readWord 0x20) 0 5 = p.val ∧
      (∀ x ∈ [(PortState.unbound, 0), (.probing, 1), (.active, 2), (.lost, 3), (.suspended, 4), (.failed, 5)],
        (s.port p).state = x.1 → bits (t.readWord 0x20) 5 3 = x.2) ∧
      (∀ x ∈ [(none, 0), (some Reason.host, 1), (some .resumed, 2), (some .retry, 3), (some .noAnswer, 4),
          (some .identity, 5), (some .setup, 6), (some .misses, 7), (some .remoteReset, 8), (some .present, 9)],
        (s.port p).reason = x.1 → bits (t.readWord 0x20) 8 4 = x.2) ∧
      ((s.port p).binding = none →
        t.readWord 0x22 = 0 ∧ t.readWord 0x23 = 0 ∧ t.readWord 0x24 = 0) ∧
      (∀ b, (s.port p).binding = some b →
        let w := t.readWord 0x22
        w.getLsbD 0 = true ∧ bits w 1 1 = chanNumber b.channel ∧ bits w 2 5 = b.device.toNat ∧
        bits w 7 3 = b.profile.val ∧ w.getLsbD 10 = b.expected.isSome ∧ w.getLsbD 11 = b.ignoreRevision ∧
        t.readWord 0x23 ++ t.readWord 0x24 = b.expected.getD 0) ∧
      ((s.port p).missCount ≤ 15 → (s.port p).attemptCount ≤ 15 →
        let w := t.readWord 0x25
        bits w 0 4 = (s.port p).missCount ∧ bits w 4 4 = (s.port p).attemptCount ∧
        w.getLsbD 8 = (s.port p).stickyDown ∧ w.getLsbD 9 = (s.port p).stickyFault ∧
        w.getLsbD 10 = (s.port p).saturated ∧ w.getLsbD 11 = (s.port p).lastIdentity.isSome ∧
        w.getLsbD 12 = (s.port p).lastGood.isSome) ∧
      (∀ i : Item, (t.readWord 0x29).getLsbD i.index = ((s.port p).mirror.get i).isSome ∧
        (t.readWord 0x29).getLsbD (8 + i.index) = (s.port p).changed.get i) ∧
      (∀ x ∈ [(Item.link, 0), (.neg, 1), (.duplex, 2), (.rfault, 3), (.energy, 4)],
        (t.readWord 0x2A).getLsbD x.2 = decide ((s.port p).mirror.get x.1 = some (.flag true))) ∧
      (∀ x ∈ [(none, 0), (some (ItemValue.speed .s10), 0), (some (.speed .s100), 1), (some (.speed .s1000), 2),
          (some (.speed .s2500), 3)],
        (s.port p).mirror.speed = x.1 → bits (t.readWord 0x2A) 5 2 = x.2)

/-- R66, R67, R191: the timing parameters. -/
def Obligations.TimingParameterWrites : Prop :=
  ∀ (v : Word) (s : State), Ready s →
    ((v.toNat = 0 ∨ 15 < v.toNat) →
      exec (.writeMissLimit v) s = .next { s with cu := checkedShown s.cu 0x18 .badArg } ∧
      exec (.writeProbeAttemptLimit v) s = .next { s with cu := checkedShown s.cu 0x19 .badArg }) ∧
    (1 ≤ v.toNat → v.toNat ≤ 15 →
      ((∃ p : PortId, v.toNat < (s.port p).missCount) →
        exec (.writeMissLimit v) s = .next { s with cu := checkedShown s.cu 0x18 .badState }) ∧
      ((∀ p : PortId, (s.port p).missCount ≤ v.toNat) →
        exec (.writeMissLimit v) s = .next
          { s with pt := { s.pt with missLimit := v.toNat }, cu := checkedShown s.cu 0x18 .done }) ∧
      ((∃ p : PortId, v.toNat < (s.port p).attemptCount) →
        exec (.writeProbeAttemptLimit v) s = .next { s with cu := checkedShown s.cu 0x19 .badState }) ∧
      ((∀ p : PortId, (s.port p).attemptCount ≤ v.toNat) →
        exec (.writeProbeAttemptLimit v) s = .next
          { s with pt := { s.pt with attemptLimit := v.toNat }, cu := checkedShown s.cu 0x19 .done })) ∧
    (v.toNat = 0 →
      exec (.writeProbeRetryInterval v) s = .next { s with cu := checkedShown s.cu 0x1A .badArg } ∧
      exec (.writeLostCheckInterval v) s = .next { s with cu := checkedShown s.cu 0x1B .badArg }) ∧
    (1 ≤ v.toNat →
      exec (.writeProbeRetryInterval v) s = .next
        { s with pt := { s.pt with retryInterval := v.toNat }, cu := checkedShown s.cu 0x1A .done } ∧
      exec (.writeLostCheckInterval v) s = .next
        { s with pt := { s.pt with lostInterval := v.toNat }, cu := checkedShown s.cu 0x1B .done })

/-! ### Port Table: observations and outcomes -/

/-- R13 to R18, R6, R7, R10, R20: what a fetch result does to the mirror, the changed flags and the sticky flags of its
port, item by item; the item-change events it posts, in item order; and what it leaves. R4, R13: which recipe serves an
item, and the value an item takes from a word. PARTNER's drop stands at PARTNER's place (assumption 20). -/
def Obligations.FetchResultAppliesServedItems : Prop :=
  (∀ (f : FetchResult) (i : Item) (c : Recipe) (w : Word),
    (f.serves i = some c ↔ (f.profile.recipes.get i = some c ∧ c.loc = f.loc)) ∧
    f.live i c = f.profile.value i c (f.second.getD f.first) ∧
    let n := w.toNat / 2 ^ c.low % 2 ^ c.width
    (i ∈ [Item.link, .neg, .duplex, .rfault, .energy] →
      f.profile.value i c w = .flag (if c.polarity = .normal then decide (n = 1) else decide (n = 0))) ∧
    (i ∈ [Item.partner, .count] → f.profile.value i c w = .word (BitVec.ofNat 16 n)) ∧
    (i = .speed → ∀ x ∈ [(0, f.profile.speedMap.e0), (1, f.profile.speedMap.e1), (2, f.profile.speedMap.e2),
      (3, f.profile.speedMap.e3)], n = x.1 → f.profile.value i c w = .speed x.2)) ∧
  ∀ (s : State) (f : FetchResult),
    let r := s.port f.port
    let t := s.applyFetch f
    let r' := t.port f.port
    let e := posted s.ev s.stamp (fetchEvents r r' f)
    (∀ i c, i ≠ .partner → i ≠ .count → f.serves i = some c → r'.mirror.get i = some (f.live i c)) ∧
    (∀ i, i ≠ .partner → f.serves i = none →
      r'.mirror.get i = r.mirror.get i ∧ r'.changed.get i = r.changed.get i) ∧
    (f.serves .link = none → r'.stickyDown = r.stickyDown) ∧
    (f.serves .rfault = none → r'.stickyFault = r.stickyFault) ∧
    (f.serves .count = none → r'.accumulator = r.accumulator ∧ r'.saturated = r.saturated ∧ t.ie = s.ie) ∧
    (∀ c, f.serves .link = some c →
      let bad := f.live .link c = .flag false ∨
        (c.latching = true ∧ f.profile.value .link c f.first = .flag false)
      (r'.stickyDown = true ↔ (r.stickyDown = true ∨ bad)) ∧
      (r'.changed.link = true ↔
        (r.changed.link = true ∨ r.mirror.link ≠ r'.mirror.link ∨ (bad ∧ r.stickyDown = false)))) ∧
    (∀ c, f.serves .rfault = some c →
      let bad := f.live .rfault c = .flag true ∨
        (c.latching = true ∧ f.profile.value .rfault c f.first = .flag true)
      (r'.stickyFault = true ↔ (r.stickyFault = true ∨ bad)) ∧
      (r'.changed.rfault = true ↔
        (r.changed.rfault = true ∨ r.mirror.rfault ≠ r'.mirror.rfault ∨ (bad ∧ r.stickyFault = false)))) ∧
    (∀ i c, i ∈ [Item.neg, .speed, .duplex, .energy] → f.serves i = some c →
      (r'.changed.get i = true ↔ (r.changed.get i = true ∨ r.mirror.get i ≠ r'.mirror.get i))) ∧
    (∀ c, f.serves .partner = some c → r'.mirror.neg = some (.flag true) →
      r'.mirror.partner = some (f.live .partner c)) ∧
    (∀ c, f.serves .neg = some c → f.live .neg c = .flag false → r'.mirror.partner = none) ∧
    ((f.serves .partner = none ∨ r'.mirror.neg ≠ some (.flag true)) →
      (∀ c, f.serves .neg = some c → f.live .neg c ≠ .flag false) → r'.mirror.partner = r.mirror.partner) ∧
    (r'.changed.partner = true ↔ (r.changed.partner = true ∨ r.mirror.partner ≠ r'.mirror.partner)) ∧
    t.ev = e.1 ∧ r'.resync = (r.resync || e.2) ∧
    (r'.state, r'.reason, r'.binding, r'.missCount, r'.attemptCount, r'.bindings) =
      (r.state, r.reason, r.binding, r.missCount, r.attemptCount, r.bindings) ∧
    (r'.lastIdentity, r'.lastGood, r'.probeRetry, r'.lostCheck) =
      (r.lastIdentity, r.lastGood, r.probeRetry, r.lostCheck) ∧
    (∀ q : PortId, q ≠ f.port → t.port q = s.port q) ∧
    (t.pt.missLimit, t.pt.attemptLimit, t.pt.retryInterval, t.pt.lostInterval, t.pt.view) =
      (s.pt.missLimit, s.pt.attemptLimit, s.pt.retryInterval, s.pt.lostInterval, s.pt.view) ∧
    t.ie = { s.ie with flash := t.ie.flash } ∧ (∀ q : PortId, q ≠ f.port → t.ie.flash[q] = s.ie.flash[q]) ∧
    (t.ps, t.ch0, t.ch1, t.att, t.ht, t.cu, t.stamp, t.pending, t.rstnLow, t.spi) =
      (s.ps, s.ch0, s.ch1, s.att, s.ht, s.cu, s.stamp, s.pending, s.rstnLow, s.spi)

/-- R8, R17, R21, R165: an observation of COUNT: the accumulator and its limit, the saturated flag, the last reading,
COUNT's changed flag, the one activity arrival and what it does to the port's flash machine, and the one item-change event
of a saturated flag newly set. -/
def Obligations.CountObservationAccumulates : Prop :=
  ∀ (s : State) (f : FetchResult) (c : Recipe), f.serves .count = some c →
    let r := s.port f.port
    let t := s.applyFetch f
    let r' := t.port f.port
    let m := s.ie.flash[f.port]
    let first := c.field f.first
    let second := (f.second.map c.field).getD 0
    let full := first = 65535 ∨ f.second.map c.field = some 65535
    r'.accumulator.toNat = min (r.accumulator.toNat + first + second) 4294967295 ∧
    (r'.saturated = true ↔ (r.saturated = true ∨ full)) ∧
    r'.mirror.count = some (.word (BitVec.ofNat 16 ((f.second.map c.field).getD first))) ∧
    (r'.changed.count = true ↔ (r.changed.count = true ∨ (full ∧ r.saturated = false))) ∧
    (first + second = 0 → t.ie = s.ie) ∧
    (0 < first + second → t.ie = { s.ie with flash := s.ie.flash.set f.port (
      if m.phase = .idle then { m with phase := .pulse, timer := 10 * s.ie.flashWidth }
      else { m with pending := true }) }) ∧
    ((∀ i, i ≠ .count → f.serves i = none) →
      (full ∧ r.saturated = false → (t.ev, r'.resync) =
        (let e := s.ev.take (.itemChange f.port .count r.mirror.count (some (.word 0xFFFF#16)) f.cause) s.stamp
        (e.1, r.resync || e.2))) ∧
      (¬(full ∧ r.saturated = false) → t.ev = s.ev ∧ r'.resync = r.resync))

/-- R60, R61, R5, R10, R20, R47: the outcome of a scan job on an ACTIVE port, each as exactly the state it leaves. A loss
of the port posts the events of the clearing of the live mirror in item order, then the STATE_CHANGE. -/
def Obligations.ScanOutcomesCountMissesAndLoseThePort : Prop :=
  ∀ (s : State) (p : PortId), (s.port p).state = .active →
    let r := s.port p
    let stays := fun (r' : PortRec) =>
      { s with
        pt := { s.pt with ports := s.pt.ports.set p r' }, ch0 := staying s.ch0 p, ch1 := staying s.ch1 p }
    let e := fun (new : PortState) (why : Reason) =>
      posted s.ev s.stamp (clearingEvents r p ++ [.stateChange p .active new (some why)])
    s.scanOutcome p .good = stays { r with missCount := 0, lastGood := some s.stamp } ∧
    (r.missCount + 1 < s.pt.missLimit →
      s.scanOutcome p .noAnswer = stays { r with missCount := r.missCount + 1 }) ∧
    (r.missCount ≤ s.pt.missLimit → s.pt.missLimit ≤ r.missCount + 1 → s.scanOutcome p .noAnswer =
      { s with
        ev := (e .lost .misses).1
        pt := { s.pt with ports := s.pt.ports.set p (reported
          { cleared r with
            state := .lost, reason := some .misses, missCount := s.pt.missLimit
            probeRetry := none, lostCheck := some s.pt.lostInterval } (e .lost .misses).2) }
        ch0 := leaving s.ch0 .ch0 r p
        ch1 := leaving s.ch1 .ch1 r p }) ∧
    s.scanOutcome p .markerMismatch =
      { s with
        ev := (e .probing .remoteReset).1
        pt := { s.pt with ports := s.pt.ports.set p (reported
          { cleared r with
            state := .probing, reason := some .remoteReset, attemptCount := 0, probeRetry := none, lostCheck := none }
          (e .probing .remoteReset).2) }
        ch0 := reprobing s.ch0 .ch0 r p
        ch1 := reprobing s.ch1 .ch1 r p } ∧
    s.scanOutcome p .busFault = s ∧ s.scanOutcome p .aborted = s

/-- R54, R56, R57, R59, R63, R10, R47: the outcomes of probe jobs and of presence checks, each as exactly the state it
leaves, with the STATE_CHANGE event of each transition. -/
def Obligations.ProbeAndPresenceOutcomes : Prop :=
  ∀ (s : State) (p : PortId) (b : Binding), (s.port p).binding = some b →
    let r := s.port p
    let stays := fun (r' : PortRec) =>
      { s with
        pt := { s.pt with ports := s.pt.ports.set p r' }, ch0 := staying s.ch0 p, ch1 := staying s.ch1 p }
    let moves := fun (r' : PortRec) (c0 c1 : Channel) =>
      let e := s.ev.take (.stateChange p r.state r'.state r'.reason) s.stamp
      { s with ev := e.1, pt := { s.pt with ports := s.pt.ports.set p (reported r' e.2) }, ch0 := c0, ch1 := c1 }
    let leaves := fun (r' : PortRec) => moves r' (leaving s.ch0 .ch0 r p) (leaving s.ch1 .ch1 r p)
    let returned := fun (k : ProbeKind) =>
      s.setChan b.channel { s.chan b.channel with sched := withProbeFirst (s.chan b.channel).sched p k }
    (r.state = .probing →
      s.probeOutcome p .good = leaves
        { r with
          state := .active, missCount := 0, lastGood := some s.stamp, probeRetry := none, lostCheck := none } ∧
      s.probeOutcome p .identity = leaves
        { r with state := .failed, reason := some .identity, probeRetry := none, lostCheck := none } ∧
      (∀ o why, (o = .noAnswer ∧ why = .noAnswer) ∨ (o = .setup ∧ why = .setup) →
        (r.attemptCount + 1 < s.pt.attemptLimit → s.probeOutcome p o = stays
          { r with attemptCount := r.attemptCount + 1, probeRetry := some s.pt.retryInterval }) ∧
        (r.attemptCount ≤ s.pt.attemptLimit → s.pt.attemptLimit ≤ r.attemptCount + 1 → s.probeOutcome p o = leaves
          { r with
            state := .failed, reason := some why, attemptCount := s.pt.attemptLimit
            probeRetry := none, lostCheck := none })) ∧
      s.probeOutcome p .busFault = returned .probe ∧ s.probeOutcome p .aborted = returned .probe) ∧
    (r.state = .lost →
      s.presenceOutcome p .good = moves
        { r with
          state := .probing, reason := some .present, attemptCount := 0, probeRetry := none, lostCheck := none }
        (reprobing s.ch0 .ch0 r p) (reprobing s.ch1 .ch1 r p) ∧
      s.presenceOutcome p .noAnswer = stays { r with lostCheck := some s.pt.lostInterval } ∧
      s.presenceOutcome p .busFault = returned .presence ∧ s.presenceOutcome p .aborted = returned .presence)

/-- R12, R64, R100: the end of a frame of a stale job changes no port record, posts no event and sends no activity
arrival, whatever was read; the job goes on only with the frames of the piece it has begun. Outside an abort drain the next
frame of that piece is handed over, or the piece was over, the job ends and the channel is free. That a stale attempt
stores no last identity is the model's choice (assumption 22). The next frame is handed over in the same claim
(assumption 17). -/
def Obligations.StaleJobChangesNoRecord : Prop :=
  ∀ (s : State) (ch : Chan) (j : Job) (f : FlyingFrame) (ta : Bool) (data : Word), s.rstnLow = false →
    s.cu.softResetting = false → (s.chan ch).held = some (.job j) → j.stale = true → (s.chan ch).frame = some f →
    f.rate.isSome = true →
    let res := frameResult f ta data
    let x := s.setChan ch (frameGone (s.chan ch) f res)
    let n := j.access.advance (fun w => decide (j.current = .fetch) && j.profile.wantsConfirm j.access.loc w) res
    (∃ t, exec (.frameEnd ch ta data) s = .next t ∧ t.pt = s.pt ∧ t.ev = s.ev ∧ t.ie = s.ie ∧ t.ps = s.ps ∧
      ∀ j', (t.chan ch).held = some (.job j') → j'.stale = true →
        j'.port = j.port ∧ j'.current = j.current ∧ j'.todo = j.todo) ∧
    ((s.chan ch).drain ≠ .abort →
      (n.2 = false →
        exec (.frameEnd ch ta data) s = .next (x.setChan ch (jobHanded (x.chan ch) { j with access := n.1 }))) ∧
      (n.2 = true → ∃ t, exec (.frameEnd ch ta data) s = .next t ∧
        UnitFollowed (x.setChan ch { x.chan ch with held := none }) t ch))

/-- R9, R11, R12, R36, R53 to R56, R61, R63, R85, R86, R100, R111: the last bit of a frame of a job that is not stale. The
next frame of its access is handed over; or the piece has ended: its result is applied, and the next piece begins or the
job ends with its outcome, which the Port Table takes. What the access keeps of a read, and which first-read words call
for a confirm read, are said first. That an attempt stores the identity only while its port is PROBING is the model's
choice (assumption 22). The next frame is handed over in the same claim (assumption 17). -/
def Obligations.JobFrameEndGoesOnOrHandsOver : Prop :=
  (∀ (a : Access) (wants : Word → Bool) (res : FrameResult),
    let n := (a.advance wants res).1
    n.loc = a.loc ∧ n.data = a.data ∧
    (∀ w, res = .answered w → n.failed = a.failed ∧ n.first = (if a.phase = .main then some w else a.first) ∧
      n.second = if a.phase = .confirm then some w else a.second) ∧
    (res = .noAnswer → n.failed = (a.failed || decide (a.phase = .main) || decide (a.phase = .confirm))) ∧
    (res = .written → n.failed = a.failed) ∧ ((∀ w, res ≠ .answered w) → n.first = a.first ∧ n.second = a.second)) ∧
  (∀ (f : Profile) (l : Location) (w : Word), f.wantsConfirm l w = true ↔ ∃ i r, f.recipes.get i = some r ∧ r.loc = l ∧
    r.confirm = true ∧ (r.latch = .latchLow ∨ r.latch = .latchHigh) ∧
    ((i = .link ∧ f.value i r w = .flag false) ∨ (i = .rfault ∧ f.value i r w = .flag true))) ∧
  ∀ (s : State) (ch : Chan) (j : Job) (f : FlyingFrame) (ta : Bool) (data : Word), s.rstnLow = false →
    s.cu.softResetting = false → (s.chan ch).drain ≠ .abort → (s.chan ch).held = some (.job j) → j.stale = false →
    (s.chan ch).frame = some f → f.rate.isSome = true →
    let res := frameResult f ta data
    let x := s.setChan ch (frameGone (s.chan ch) f res)
    let n := j.access.advance (fun w => decide (j.current = .fetch) && j.profile.wantsConfirm j.access.loc w) res
    let a := n.1
    let y := pieceHanded x j a
    let v := j.identHigh.getD 0 ++ a.first.getD 0
    let differs := ∃ e, j.binding.expected = some e ∧ (if j.binding.ignoreRevision = true then v >>> 4 ≠ e >>> 4 else v ≠ e)
    (n.2 = false → exec (.frameEnd ch ta data) s = .next (x.setChan ch (jobHanded (x.chan ch) { j with access := a }))) ∧
    (n.2 = true → ∃ u t, exec (.frameEnd ch ta data) s = .next t ∧ UnitFollowed u t ch ∧
      (a.failed = true → u = jobEnded x ch j .noAnswer) ∧
      (a.failed = false →
        (j.current = .identHigh → u = jobNext x ch { j with identHigh := a.first }) ∧
        (j.current = .identLow → (differs → u = jobEnded y ch j .identity) ∧ (¬differs → u = jobNext y ch j)) ∧
        (j.current = .fetch → u = jobNext y ch j) ∧
        (j.current = .markerRead →
          (a.first = j.profile.marker.map WriteStep.value → u = jobNext x ch j) ∧
          (a.first ≠ j.profile.marker.map WriteStep.value →
            u = jobEnded x ch j (if j.kind = .probe then .setup else .markerMismatch))) ∧
        (j.current ∈ [.setup, .markerWrite, .presence] → u = jobNext x ch j)))

/-! ### Profile Store (Chapter 2) -/

/-- R41, R42, R43: PROFILE_LOAD. -/
def Obligations.ProfileLoadInstallsOrRefuses : Prop :=
  ∀ (hi : BitVec 8) (s : State), Ready s →
    (7 < s.argTarget → exec (.profileLoad hi) s = .next { s with cu := shown s.cu hi 10 .badArg 0 none }) ∧
    ∀ n : Fin 8, s.argTarget = n.val →
      ((∃ p : PortId, (s.port p).bound = true ∧ (s.port p).binding.map Binding.profile = some n) →
        exec (.profileLoad hi) s = .next { s with cu := shown s.cu hi 10 .inUse 0 none }) ∧
      ((∀ p : PortId, (s.port p).bound = true → (s.port p).binding.map Binding.profile ≠ some n) →
        (∀ sub item, s.ps.staging.check = some (sub, item) → exec (.profileLoad hi) s = .next
          { s with cu := shown s.cu hi 10 .badArg (BitVec.ofNat 8 sub) item }) ∧
        (s.ps.staging.check = none → exec (.profileLoad hi) s = .next
          { s with
            cu := shown s.cu hi 10 .done 0 none
            ps := { s.ps with profiles := s.ps.profiles.set n (some s.ps.staging.install) } }))

/-- R42, R41 (d), R27, R28, R30, Figure 2-8: a staging record passes exactly when every check holds of its present
recipes; the first check that fails gives the sub-code, and the first item in item order that fails it is named; and the
profile a record installs, part by part. -/
def Obligations.CheckedStagingRecordIsSound : Prop :=
  ∀ g : Staging,
    (g.check = none ↔
      ((∀ i r, g.recipe i = some r →
          1 ≤ r.width ∧ r.low + r.width ≤ 16 ∧
          (i ∈ [Item.link, .neg, .duplex, .rfault, .energy] → r.width = 1) ∧
          (i = .speed → r.width = 1 ∨ r.width = 2) ∧
          (i = .count → r.width = 16 ∧ r.latch = .clearOnRead) ∧
          (i = .link → r.latch = .plain ∨ r.latch = .latchLow) ∧
          (i = .rfault → r.latch = .plain ∨ r.latch = .latchHigh) ∧
          (i ∈ [Item.neg, .speed, .duplex, .partner, .energy] → r.latch = .plain) ∧
          (r.confirm = true → r.latch = .latchLow ∨ r.latch = .latchHigh)) ∧
        (∀ r, g.recipe .partner = some r → ∃ n, g.recipe .neg = some n ∧ ∃ i c, g.recipe i = some c ∧ c.loc = n.loc ∧
          ∀ k d, g.recipe k = some d → d.loc = r.loc → i.index ≤ k.index) ∧
        (g.identPresent = true → g.identHigh.method = .direct ∧ g.identLow.method = .direct) ∧
        (g.markerPresent = true → ∀ i r, g.recipe i = some r → r.loc ≠ g.marker.step.loc) ∧
        ∃ i r, g.recipe i = some r)) ∧
    (∀ n ∈ [1, 2, 3, 4, 5, 6, 9], ∀ i, g.check = some (n, some i) ↔
      ((∀ m, 1 ≤ m → m < n → checkPasses g m) ∧ (∃ r, g.recipe i = some r ∧ checkFails g n i r) ∧
        ∀ k r, k.index < i.index → g.recipe k = some r → ¬checkFails g n k r)) ∧
    (∀ n item, (n, item) ∈ [(7, some Item.partner), (8, none), (10, none)] →
      (g.check = some (n, item) ↔ ((∀ m, 1 ≤ m → m < n → checkPasses g m) ∧ ¬checkPasses g n))) ∧
    (∀ i, g.install.recipes.get i = g.recipe i) ∧ g.install.speedMap = g.speedMap ∧
    g.install.identity = (if g.identPresent = true then some (g.identHigh.reg, g.identLow.reg) else none) ∧
    g.install.setup = (g.steps.toList.take g.setupLength).map StagedStep.step ∧
    g.install.marker = (if g.markerPresent = true then some g.marker.step else none) ∧
    g.install.preamble = g.preamble ∧ g.install.plan = fetchPlan g.recipe ∧
    (∀ i, let r := g.recipes.get i
      g.recipe i = if r.present = true then some ⟨r.loc.location, r.low.toNat, r.width, r.polarity, r.latch, r.confirm⟩
        else none) ∧
    ∀ l : StagedLoc,
      (l.method = .direct → l.location = .direct l.reg) ∧
      (l.method = .paged →
        l.location = .paged l.second l.value l.reg (if l.restorePresent = true then some l.restore else none)) ∧
      (l.method = .indirect → l.location = .indirect l.second l.value l.reg)

/-- R38: the fetch plan of any recipes. -/
def Obligations.FetchPlanCoversEveryItemOnce : Prop :=
  ∀ recipe : Item → Option Recipe,
    let plan := fetchPlan recipe
    (plan.map PlanEntry.loc).Nodup ∧ plan.length ≤ 8 ∧
    (∀ i r, recipe i = some r → ∃ e ∈ plan, e.loc = r.loc ∧ i ∈ e.items) ∧
    (∀ e ∈ plan, e.items ≠ [] ∧ (∀ i, i ∈ e.items ↔ (recipe i).map Recipe.loc = some e.loc) ∧
      (e.items.map Item.index).Pairwise (· < ·) ∧
      (e.confirmCapable = true ↔ ∃ i ∈ e.items, ∃ r, recipe i = some r ∧ r.latching = true ∧ r.confirm = true)) ∧
    (plan.map fun e => (e.items.map Item.index).headD 8).Pairwise (· < ·)

/-- R40, R181: the staging index and the staging part words: an index above 17 leaves it; a written word reads back in
the fields of its part, a field given a value outside its range keeps the value it had while the other fields of the word
are stored, and no other word of any part changes. That bits without a field read 0 is the model's choice
(assumption 24). -/
def Obligations.StagingWordsReadBack : Prop :=
  (∀ (v : Word) (s : State), s.rstnLow = false →
    (v.toNat ≤ 17 → exec (.writeStagingIndex v) s = .next { s with ps := { s.ps with stagingIndex := v.toNat } }) ∧
    (17 < v.toNat → exec (.writeStagingIndex v) s = .next s)) ∧
  ∀ (n : Fin 4) (v : Word) (s : State), s.rstnLow = false → ∃ g,
    exec (.writeStagingPart n v) s = .next { s with ps := { s.ps with staging := g } } ∧
    (∀ part m, part ≠ stagingPart s.ps.stagingIndex ∨ m ≠ n → g.read part m = s.ps.staging.read part m) ∧
    (∀ part, part = stagingPart s.ps.stagingIndex → part ≠ .general →
      (n = 0 → bits v 0 2 ≤ 2 → g.read part n = v &&& 0x1FFF) ∧
      (n = 0 → bits v 0 2 = 3 → g.read part n = (v &&& 0x1FFC) ||| (s.ps.staging.read part n &&& 0x0003)) ∧
      (n = 1 ∨ n = 2 → g.read part n = v) ∧
      (n = 3 → (∀ i, part ≠ .recipe i) → g.read part n = v) ∧
      (n = 3 → (∃ i, part = .recipe i) → bits v 5 5 ≤ 16 → g.read part n = v &&& 0x3FFF) ∧
      (n = 3 → (∃ i, part = .recipe i) → 16 < bits v 5 5 → StagingLaw s.ps →
        g.read part n = (v &&& 0x3C1F) ||| (s.ps.staging.read part n &&& 0x03E0))) ∧
    (stagingPart s.ps.stagingIndex = .general →
      (n = 0 →
        let kept : Word := (if bits v 1 2 = 3 then 0x0006 else 0) ||| (if bits v 8 2 = 3 then 0x0300 else 0)
        g.read .general n = (v &&& 0x7FFF &&& ~~~kept) ||| (s.ps.staging.read .general n &&& kept)) ∧
      (n = 1 → bits v 9 4 ≤ 8 → g.read .general n = v &&& 0x3FFF) ∧
      (n = 1 → 8 < bits v 9 4 → StagingLaw s.ps →
        g.read .general n = (v &&& 0x21FF) ||| (s.ps.staging.read .general n &&& 0x1E00)) ∧
      (n = 2 ∨ n = 3 → g = s.ps.staging ∧ g.read .general n = 0))

/-- R36, R37, Figures 2-3 and 2-4: the frames of one fetch and of one write of a location, by method, for every word read
and for a read that gets no answer. -/
def Obligations.AccessesMakeTheirFrames : Prop :=
  ∀ (d reg sel data : BusAddr) (v w w2 x rest : Word) (wants : Word → Bool),
    let rd := fun r => Frame.mk d r .read
    let wr := fun r u => Frame.mk d r (.write u)
    let fetch := fun l rs => accessFrames d wants (Access.start l none) rs
    let put := fun l rs => accessFrames d wants (Access.start l (some x)) rs
    fetch (.direct reg) [.noAnswer] = [rd reg] ∧
    (wants w = false → fetch (.direct reg) [.answered w] = [rd reg]) ∧
    (wants w = true → fetch (.direct reg) [.answered w, .answered w2] = [rd reg, rd reg]) ∧
    fetch (.paged sel v reg none) [.written, .noAnswer] = [wr sel v, rd reg] ∧
    (wants w = false → fetch (.paged sel v reg none) [.written, .answered w] = [wr sel v, rd reg]) ∧
    (wants w = true →
      fetch (.paged sel v reg none) [.written, .answered w, .answered w2] = [wr sel v, rd reg, rd reg]) ∧
    fetch (.paged sel v reg (some rest)) [.written, .noAnswer, .written] = [wr sel v, rd reg, wr sel rest] ∧
    (wants w = false →
      fetch (.paged sel v reg (some rest)) [.written, .answered w, .written] = [wr sel v, rd reg, wr sel rest]) ∧
    (wants w = true →
      fetch (.paged sel v reg (some rest)) [.written, .answered w, .answered w2, .written] =
        [wr sel v, rd reg, rd reg, wr sel rest]) ∧
    fetch (.indirect sel v data) [.written, .noAnswer] = [wr sel v, rd data] ∧
    (wants w = false → fetch (.indirect sel v data) [.written, .answered w] = [wr sel v, rd data]) ∧
    (wants w = true →
      fetch (.indirect sel v data) [.written, .answered w, .written, .answered w2] =
        [wr sel v, rd data, wr sel v, rd data]) ∧
    put (.direct reg) [.written] = [wr reg x] ∧
    put (.paged sel v reg none) [.written, .written] = [wr sel v, wr reg x] ∧
    put (.paged sel v reg (some rest)) [.written, .written, .written] = [wr sel v, wr reg x, wr sel rest] ∧
    put (.indirect sel v data) [.written, .written] = [wr sel v, wr data x]

/-! ### Scan Scheduler (Chapter 4) -/

/-- R70, R71: SET_SCAN_ENTRY and SET_SCAN_LENGTH: the list or the length changes and nothing else of the part, the open
pass included. A pass that starts, at an expiry of the pass-interval timer or at the end of a walk, takes the list and the
length in force; with length 0 none starts. -/
def Obligations.ScanListWritesWaitForTheNextPass : Prop :=
  (∀ (hi : BitVec 8) (s : State), Ready s →
    ((1 < s.argChannel ∨ 31 < s.argIndex ∨ 23 < s.argTarget) →
      exec (.setScanEntry hi) s = .next { s with cu := shown s.cu hi 8 .badArg 0 none }) ∧
    ((1 < s.argChannel ∨ 32 < s.argIndex) →
      exec (.setScanLength hi) s = .next { s with cu := shown s.cu hi 9 .badArg 0 none }) ∧
    ∀ ch : Chan, s.argChannel = chanNumber ch →
      (∀ (i : Fin 32) (p : PortId), s.argIndex = i.val → s.argTarget = p.val →
        exec (.setScanEntry hi) s = .next (State.setChan { s with cu := shown s.cu hi 8 .done 0 none } ch
          { s.chan ch with sched := { (s.chan ch).sched with scanList := (s.chan ch).sched.scanList.set i p } })) ∧
      (s.argIndex ≤ 32 →
        exec (.setScanLength hi) s = .next (State.setChan { s with cu := shown s.cu hi 9 .done 0 none } ch
          { s.chan ch with sched := { (s.chan ch).sched with scanLength := s.argIndex } }))) ∧
  ∀ (s : State) (ch : Chan),
    let c := s.chan ch
    let fresh := c.sched.scanList.toList.take c.sched.scanLength
    (s.rstnLow = false → c.sched.passTimer = .running 0 → c.sched.pass = none → c.state ≠ .halted →
      (c.sched.scanLength = 0 → exec (.passIntervalExpiry ch) s = .next
        (s.setChan ch { c with sched := { c.sched with passTimer := .running c.sched.passInterval } })) ∧
      (0 < c.sched.scanLength → ∃ t, exec (.passIntervalExpiry ch) s = .next t ∧
        DecidedFrom (s.setChan ch { c with sched := { c.sched with
          pass := some ⟨fresh, 0⟩
          pendingExpiry := false
          passTimer := .running c.sched.passInterval } }) t ch)) ∧
    ∀ q, c.sched.probes = [] → c.sched.urgent = [] → c.sched.pass = some q →
      (∀ (n : Nat) (p : PortId), q.position ≤ n → q.list[n]? = some p → (s.port p).activeOn ch = false) →
      (∀ q', (s.consult ch).1.pass = some q' → q'.list = fresh) ∧
      (c.sched.scanLength = 0 → (s.consult ch).1.pass = none)

/-- R72, R73: the pass-interval expiry by pass state and channel state; a timer that is not due expires for nobody
(assumption 3). -/
def Obligations.PassIntervalExpiryActsByPassState : Prop :=
  ∀ (s : State) (ch : Chan), s.rstnLow = false →
    let c := s.chan ch
    (c.sched.passTimer ≠ .running 0 → exec (.passIntervalExpiry ch) s = .next s) ∧
    (c.sched.passTimer = .running 0 →
      (c.sched.pass.isSome = true → exec (.passIntervalExpiry ch) s = .next
        (s.setChan ch { c with sched := { c.sched with pendingExpiry := true, passTimer := .expired } })) ∧
      (c.sched.pass = none → (c.state = .halted ∨ c.sched.scanLength = 0) → exec (.passIntervalExpiry ch) s = .next
        (s.setChan ch { c with sched := { c.sched with passTimer := .running c.sched.passInterval } })) ∧
      (c.sched.pass = none → c.state ≠ .halted → c.sched.scanLength ≠ 0 → ∃ t,
        exec (.passIntervalExpiry ch) s = .next t ∧
        DecidedFrom (s.setChan ch { c with sched := { c.sched with
          pass := some ⟨c.sched.scanList.toList.take c.sched.scanLength, 0⟩
          pendingExpiry := false
          passTimer := .running c.sched.passInterval } }) t ch))

/-- R74, R75, R96: the consultation of a Scan Scheduler: the probe queue before the urgent queue before the regular entry,
the regular entry the first eligible one at or after the walk position, and the end of a walk that finds none: what it adds
to the urgent queue, and with a pending expiry the pass that opens, where its walk stands, and the source found. -/
def Obligations.ConsultationFindsWorkInOrder : Prop :=
  ∀ (s : State) (ch : Chan),
    let c := (s.chan ch).sched
    let adds := addedOnce [] (linePorts s ch s.att.levels)
    let fresh := c.scanList.toList.take c.scanLength
    let restarted :=
      { c with pass := none, pendingExpiry := false, passTimer := .running c.passInterval, urgent := adds }
    let opened := fun n => { restarted with pass := some ⟨fresh, n⟩, overrun := true }
    (∀ p k rest, c.probes = (p, k) :: rest → s.consult ch = (c, some (k.unit, p))) ∧
    ProbeKind.unit .probe = .probe ∧ ProbeKind.unit .presence = .presence ∧
    (∀ p rest, c.probes = [] → c.urgent = p :: rest → s.consult ch = (c, some (.urgent, p))) ∧
    (c.probes = [] → c.urgent = [] → c.pass = none → s.consult ch = (c, none)) ∧
    (∀ q, c.probes = [] → c.urgent = [] → c.pass = some q →
      (∀ (n : Nat) (p : PortId), q.position ≤ n → q.list[n]? = some p → (s.port p).activeOn ch = true →
        (∀ (m : Nat) (p' : PortId), q.position ≤ m → m < n → q.list[m]? = some p' → (s.port p').activeOn ch = false) →
        s.consult ch = ({ c with pass := some { q with position := n } }, some (.regular, p))) ∧
      ((∀ (m : Nat) (p' : PortId), q.position ≤ m → q.list[m]? = some p' → (s.port p').activeOn ch = false) →
        (c.pendingExpiry = false →
          s.consult ch = ({ c with pass := none, urgent := adds }, adds.head?.map fun p => (.urgent, p))) ∧
        (c.pendingExpiry = true → c.scanLength = 0 →
          s.consult ch = (restarted, adds.head?.map fun p => (.urgent, p))) ∧
        (c.pendingExpiry = true → 0 < c.scanLength →
          (∀ p rest, adds = p :: rest → s.consult ch = (opened 0, some (.urgent, p))) ∧
          (adds = [] →
            (∀ (n : Nat) (p : PortId), fresh[n]? = some p → (s.port p).activeOn ch = true →
              (∀ (m : Nat) (p' : PortId), m < n → fresh[m]? = some p' → (s.port p').activeOn ch = false) →
              s.consult ch = (opened n, some (.regular, p))) ∧
            ((∀ (m : Nat) (p' : PortId), fresh[m]? = some p' → (s.port p').activeOn ch = false) →
              s.consult ch = ({ restarted with overrun := true }, none)))) ∧
        ∀ p, p ∈ (s.consult ch).1.urgent ↔ ((s.port p).activeOn ch = true ∧ ∃ n : Fin 4,
          s.att.levels.getLsbD n = true ∧ s.att.sets[n].getLsbD p = true)))

/-- R177, R67, R72, R80, R81, R150, R162, R165, R167, R169: a tick of the Timebase. The stamp goes up, every running timer
goes down by 1, the fifth tick makes a refresh due, the attention levels are stored, and the ports of the lines newly
active join the urgent queues; an addition is a notice to the channel's arbiter (assumption 21), CH0's first
(assumption 12). That the
expiry of a timer that has reached 0 and the refresh are rows of their own is the model's choice (assumption 3). -/
def Obligations.TickCountsTimersAndSamplesAttention : Prop :=
  ∀ (s : State) (atn : BitVec 4), s.rstnLow = false →
    let down := fun (t : Option Nat) => t.map (· - 1)
    let newly := ~~~atn &&& ~~~s.att.levels
    let queue := fun ch => addedOnce (s.chan ch).sched.urgent (linePorts s ch newly)
    let ticked := fun (c : Channel) (urgent : List PortId) =>
      { c with sched := { c.sched with
        passTimer := match c.sched.passTimer with
          | .running n => .running (n - 1)
          | t => t
        urgent := urgent } }
    let grown := fun ch => decide ((s.chan ch).sched.urgent.length < (queue ch).length)
    ∃ (ports : Vector PortRec 24) (records : Vector IndicatorRec 48) (slots : Vector RateSlot 4)
      (flash : Vector FlashMachine 24),
      (∀ p : PortId, ports[p] =
        { s.port p with probeRetry := down (s.port p).probeRetry, lostCheck := down (s.port p).lostCheck }) ∧
      (∀ i : IndicatorId, records[i] =
        { s.ie.records[i] with override := s.ie.records[i].override.map fun o => { o with timer := down o.timer } }) ∧
      (∀ n : Fin 4, slots[n] = { s.ie.slots[n] with timer := s.ie.slots[n].timer - 1 }) ∧
      (∀ p : PortId, flash[p] = { s.ie.flash[p] with timer := s.ie.flash[p].timer - 1 }) ∧
      let u : State :=
        { s with
          stamp := s.stamp + 1
          pt := { s.pt with ports := ports }
          att := { s.att with levels := ~~~atn }
          ch0 := ticked s.ch0 (queue .ch0)
          ch1 := ticked s.ch1 (queue .ch1)
          ev := { s.ev with timer := match s.ev.timer with
            | .running n => .running (n - 1)
            | t => t }
          ie := { s.ie with
            records := records, slots := slots, flash := flash
            refreshCount := if s.ie.refreshCount < 4 then s.ie.refreshCount + 1 else 0
            refreshDue := if s.ie.refreshCount < 4 then s.ie.refreshDue else true } }
      let u0 := if grown .ch0 = true then u.notice .ch0 else u
      exec (.timebaseTick atn) s = .next (if grown .ch1 = true then u0.notice .ch1 else u0)

/-- R79, R178: a low-word write of an attention set is held, and a high-word write replaces its line's set whole; R76: a
1 in bit 4 of a channel's status word clears the overrun flag. None of them changes the result registers. -/
def Obligations.AttentionSetAndOverrunWrites : Prop :=
  ∀ (v : Word) (s : State), s.rstnLow = false →
    (∀ line : Fin 4, exec (.writeAttentionLow line v) s = .next { s with att := { s.att with holding := v } }) ∧
    (∀ line : Fin 4, ∃ sets : Vector (BitVec 24) 4,
      exec (.writeAttentionHigh line v) s = .next { s with att := { s.att with sets := sets } } ∧
      (∀ p : Fin 24, sets[line].getLsbD p =
        if p.val < 16 then s.att.holding.getLsbD p.val else v.getLsbD (p.val - 16)) ∧
      ∀ m : Fin 4, m ≠ line → sets[m] = s.att.sets[m]) ∧
    ∀ ch : Chan,
      (bit v 4 = true → exec (.writeChannelStatus ch v) s = .next
        (s.setChan ch { s.chan ch with sched := { (s.chan ch).sched with overrun := false } })) ∧
      (bit v 4 = false → exec (.writeChannelStatus ch v) s = .next s)

/-! ### Channel Arbiter (Chapter 5) -/

/-- R98, R99: the turn rule, row by row of its table. -/
def Obligations.TurnRuleChoosesTheSide : Prop :=
  ∀ (s : State) (ch : Chan),
    let c := s.chan ch
    (∀ src, c.hostReady = true → 0 < c.hostTurn →
      let t := (s.turnRule ch src).1
      (s.turnRule ch src).2 = true ∧ (t.chan ch).hostTurn = c.hostTurn - 1 ∧
      (t.chan ch).hostQueue = c.hostQueue.tail ∧ t.pt = s.pt ∧ t.ht.outstanding = s.ht.outstanding) ∧
    (c.hostReady = true → c.hostTurn = 0 →
      let t := (s.turnRule ch none).1
      (s.turnRule ch none).2 = true ∧ (t.chan ch).hostTurn = 0 ∧ (t.chan ch).hostQueue = c.hostQueue.tail) ∧
    (∀ k p, (c.hostReady = false ∨ c.hostTurn = 0) →
      let t := (s.turnRule ch (some (k, p))).1
      (s.turnRule ch (some (k, p))).2 = false ∧ (t.chan ch).hostTurn = c.hostWeight ∧
      (t.chan ch).hostQueue = c.hostQueue ∧
      (∀ b f x rest, (s.port p).binding = some b → s.profile b.profile = some f → f.pieces k = x :: rest →
        (t.chan ch).grant = .device k p ∧
        ∃ g, (t.chan ch).frame = some g ∧ g.rate = none ∧
          g.frame = (Access.start x.loc x.data).frame b.device ∧
          (g.preamble = false ↔ (f.preamble = true ∧ c.established.getLsbD b.device.toNat = true)))) ∧
    (c.hostReady = false → s.turnRule ch none = (s, false)) ∧
    (s.mayDecide ch = false → s.notice ch = s)

/-- R84, R95, R97 to R100, R53, R62, R85, R129: what a notice does. Where the arbiter may decide it consults the Scan
Scheduler and takes the turn rule, and a host unit granted is a notice again, which changes nothing while a unit holds the
channel. The device side's grant takes the member or entry from its source and composes the job; the host side's takes the
unit at the head. While SOFT_RESET drains the part no arbiter decides (assumption 6). -/
def Obligations.NoticeDecidesUntilNothingIsGranted : Prop :=
  (∀ (s : State) (ch : Chan),
    let c := s.chan ch
    let r := (s.setChan ch { c with sched := (s.consult ch).1 }).turnRule ch (s.consult ch).2
    (s.mayDecide ch = true ↔ (c.state = .idle ∧ c.held = none ∧ s.cu.softResetting = false)) ∧
    (s.mayDecide ch = false → s.notice ch = s) ∧
    (s.mayDecide ch = true → s.notice ch = if r.2 = true then r.1.notice ch else r.1)) ∧
  (∀ (s : State) (ch : Chan),
    let c := s.chan ch
    (c.hostReady = true ↔ (∃ u rest, c.hostQueue = u :: rest ∧ (c.chainOpen = true → rest ≠ []))) ∧
    (∀ (k : DeviceKind) (p : PortId) (b : Binding) (f : Profile) (x : Piece) (rest : List Piece),
      (c.hostReady = false ∨ c.hostTurn = 0) → (s.port p).binding = some b → s.profile b.profile = some f →
      f.pieces k = x :: rest →
      s.turnRule ch (some (k, p)) = (s.setChan ch (jobHanded
        { c with
          hostTurn := c.hostWeight
          sched := { c.sched with
            probes := if k = .probe ∨ k = .presence then c.sched.probes.tail else c.sched.probes
            urgent := if k = .urgent then c.sched.urgent.tail else c.sched.urgent
            pass := if k = .regular then c.sched.pass.map fun q => { q with position := q.position + 1 }
              else c.sched.pass } }
        { kind := k, port := p, binding := b, profile := f, current := x.kind, access := .start x.loc x.data
          todo := rest, identHigh := none, stale := false }), false)) ∧
    (∀ (src : Option Source) (u : List HostTxn) (rest : List (List HostTxn)), c.hostReady = true →
      (src = none ∨ 0 < c.hostTurn) → c.hostQueue = u :: rest →
      s.turnRule ch src =
        ((s.setChan ch { c with hostQueue := rest, hostTurn := c.hostTurn - 1 }).hostProceed ch [] u, true)) ∧
    (c.hostReady = false → s.turnRule ch none = (s, false))) ∧
  ∀ f : Profile,
    let fetches := f.plan.map fun e => Piece.mk .fetch e.loc none
    let marks := (f.marker.map fun m => Piece.mk .markerRead m.loc none).toList
    f.pieces .urgent = fetches ++ marks ∧ f.pieces .regular = fetches ++ marks ∧
    (∀ hi lo, f.identity = some (hi, lo) →
      f.pieces .presence = [⟨.presence, .direct hi, none⟩] ∧
      (f.pieces .probe).take 2 = [⟨.identHigh, .direct hi, none⟩, ⟨.identLow, .direct lo, none⟩]) ∧
    (f.identity = none → ∀ e rest, f.plan = e :: rest → f.pieces .presence = [⟨.presence, e.loc, none⟩]) ∧
    (f.pieces .probe).drop (if f.identity.isSome = true then 2 else 0) =
      f.setup.map (fun w => ⟨.setup, w.loc, some w.value⟩) ++
        (f.marker.map fun m => ⟨.markerWrite, m.loc, some m.value⟩).toList ++ marks ++ fetches

/-- R72, R102, R108, R121: the checked writes of a channel's group: the range accepted, what changes, and what the register
reads after. -/
def Obligations.ChannelConfigurationWrites : Prop :=
  ∀ (ch : Chan) (v : Word) (s : State), Ready s →
    let c := s.chan ch
    let ok := fun (n : Nat) (c' : Channel) =>
      State.setChan { s with cu := checkedShown s.cu (channelAddress ch n) .done } ch c'
    let no := fun (n : Nat) => { s with cu := checkedShown s.cu (channelAddress ch n) .badArg }
    (3 ≤ v.toNat → v.toNat ≤ 63 →
      exec (.writeDivider ch v) s = .next (ok 0 { c with divider := v.toNat }) ∧
      (ok 0 { c with divider := v.toNat }).readWord (channelAddress ch 0) = v) ∧
    ((v.toNat < 3 ∨ 63 < v.toNat) → exec (.writeDivider ch v) s = .next (no 0)) ∧
    (1 ≤ v.toNat →
      exec (.writePassInterval ch v) s = .next (ok 1 { c with sched := { c.sched with passInterval := v.toNat } }) ∧
      (ok 1 { c with sched := { c.sched with passInterval := v.toNat } }).readWord (channelAddress ch 1) = v) ∧
    (v.toNat = 0 → exec (.writePassInterval ch v) s = .next (no 1)) ∧
    (1 ≤ v.toNat → v.toNat ≤ 4 →
      exec (.writeHostWeight ch v) s = .next (ok 2
        { c with
          hostWeight := v.toNat, hostTurn := if v.toNat < c.hostTurn then v.toNat else c.hostTurn }) ∧
      (ok 2 { c with hostWeight := v.toNat, hostTurn := min c.hostTurn v.toNat }).readWord (channelAddress ch 2) = v) ∧
    ((v.toNat = 0 ∨ 4 < v.toNat) → exec (.writeHostWeight ch v) s = .next (no 2))

/-! ### Bus Channel (Chapter 6) -/

/-- R109, R110, R116, R120, R64: the idle-line check. A high line starts the frame; a low line ends the unit with
BUS_FAULT, posts CHANNEL_FAULT and latches CHF, and halts the channel or, in a disable drain, makes it OFF, with which the
disable completes. A stale job whose piece has not begun ends without its frame (assumption 9); with no frame waiting
nothing happens (assumption 3). The level found is noted in the model's own record of the pin (assumption 10). -/
def Obligations.IdleLineCheckStartsOrHalts : Prop :=
  ∀ (s : State) (ch : Chan), s.rstnLow = false →
    let c := s.chan ch
    let e := { (s.ev.take (.channelFault ch) s.stamp).1 with chf := true }
    let awaited := s.cu.timed = some ⟨17, decide (ch = .ch0), decide (ch = .ch1)⟩
    let ended := fun (x : State) (q : Scheduler) =>
      if c.drain = .disable then
        State.setChan { x with cu := completed s.cu 17 } ch
          (disabled { c with mdioHigh := false, frame := none, held := none, sched := q })
      else x.setChan ch { c with mdioHigh := false, frame := none, held := none, state := .halted, sched := q }
    let unbegun := ∃ j, c.held = some (.job j) ∧ j.stale = true ∧
      j.access.phase = (if ∃ reg, j.access.loc = .direct reg then .main else .select)
    ((c.frame = none ∨ started c = true) → ∀ m, exec (.idleLineCheck ch m) s = .next s) ∧
    ∀ f, c.frame = some f → f.rate = none →
      (¬unbegun → exec (.idleLineCheck ch true) s = .next
        (s.setChan ch { c with mdioHigh := true, frame := some { f with rate := some c.divider } })) ∧
      (unbegun → c.drain = .none → ∃ t, exec (.idleLineCheck ch true) s = .next t ∧
        DecidedFrom (s.setChan ch
          { c with
            mdioHigh := true, frame := none, held := none
            state := if c.state = .busy then .idle else c.state }) t ch) ∧
      (unbegun → c.drain = .disable → awaited → exec (.idleLineCheck ch true) s = .next
        (State.setChan { s with cu := completed s.cu 17 } ch
          (disabled { c with mdioHigh := true, frame := none, held := none }))) ∧
      ((c.drain = .disable → awaited) →
        (∀ r, c.held = some (.host r) → exec (.idleLineCheck ch false) s = .next (ended
          { s with
            ev := e
            ht := { s.ht with completions := s.ht.completions ++
              (r.done ++ allWith (r.current.txn :: r.todo) .busFault) } } c.sched)) ∧
        (∀ j, c.held = some (.job j) → (j.kind = .urgent ∨ j.kind = .regular ∨ j.stale = true) →
          exec (.idleLineCheck ch false) s = .next (ended { s with ev := e } c.sched)) ∧
        (∀ j b k, c.held = some (.job j) → j.stale = false → j.kind = k.unit →
          (s.port j.port).state = memberState k → (s.port j.port).binding = some b → b.channel = ch →
          s.cu.softResetting = false →
          exec (.idleLineCheck ch false) s = .next (ended { s with ev := e } (withProbeFirst c.sched j.port k))))

/-- R111, R113, R129 to R133, R135, R136, R100: the last bit of a frame of a host unit. The next frame of the member is
handed over; or the member has ended: what it read is offered to the Port Table, its completion record is made, and the
members to come are taken in order: a RAW member runs, an ITEM_READ runs with the reading of its binding or completes
PORT_GONE or BAD_STATE without a frame; when none is left the unit ends and its records are placed. An ITEM_READ's turn
and the hand-over of its first frame are one claim (assumption 17), and its binding is known by the model's own count
(assumption 15). -/
def Obligations.HostFrameEndRunsTheUnitsMembers : Prop :=
  (∀ (s : State) (ch : Chan) (r : HostRun) (f : FlyingFrame) (ta : Bool) (data : Word), s.rstnLow = false →
    (s.chan ch).drain ≠ .abort → (s.chan ch).held = some (.host r) → (s.chan ch).frame = some f →
    f.rate.isSome = true →
    let x := s.setChan ch (frameGone (s.chan ch) f (frameResult f ta data))
    let m := r.current
    let n := m.access.advance (fun w => decide (∃ g, m.profile = some g ∧ g.wantsConfirm m.access.loc w = true))
      (frameResult f ta data)
    (n.2 = false → exec (.frameEnd ch ta data) s = .next
      (x.setChan ch (hostHanded (x.chan ch) { r with current := { m with access := n.1 } }))) ∧
    (n.2 = true → ∃ y t, MemberOffered x y ch m n.1 ∧ exec (.frameEnd ch ta data) s = .next t ∧
      UnitFollowed (y.hostProceed ch (r.done ++ [memberRecord m n.1]) r.todo) t ch)) ∧
  ∀ (s : State) (ch : Chan) (done : List Completion),
    s.hostProceed ch done [] = State.setChan
      { s with ht := { s.ht with completions := s.ht.completions ++ done } } ch { s.chan ch with held := none } ∧
    ∀ (t : HostTxn) (rest : List HostTxn),
      let without := fun (res : HostResult) => s.hostProceed ch (done ++ [⟨t, res, none⟩]) rest
      let runs := fun (device : BusAddr) (profile : Option Profile) (l : Location) (data : Option Word) =>
        s.setChan ch (hostHanded (s.chan ch) ⟨done, ⟨t, device, profile, .start l data, false⟩, rest⟩)
      (∀ d reg, t.op = .rawRead d reg → s.hostProceed ch done (t :: rest) = runs d none (.direct reg) none) ∧
      (∀ d reg w, t.op = .rawWrite d reg w → s.hostProceed ch done (t :: rest) = runs d none (.direct reg) (some w)) ∧
      ∀ p item n, t.op = .itemRead p item n →
        (((s.port p).binding = none ∨ (s.port p).bindings ≠ n) →
          s.hostProceed ch done (t :: rest) = without .portGone) ∧
        ∀ b, (s.port p).binding = some b → (s.port p).bindings = n →
          ((s.port p).state ≠ .active → s.hostProceed ch done (t :: rest) = without .badState) ∧
          ∀ g c, (s.port p).state = .active → s.profile b.profile = some g → g.recipes.get item = some c →
            s.hostProceed ch done (t :: rest) = runs b.device (some g) c.loc none

/-- R112, R114: at the last bit of any frame the preamble-established set takes or loses the frame's device address by the
frame's result, and the other channel's frame and set are left; with no frame on the lines nothing happens
(assumption 3). -/
def Obligations.FrameEndChangesThePreambleSet : Prop :=
  ∀ (s : State) (ch : Chan) (ta : Bool) (data : Word), s.rstnLow = false →
    (started (s.chan ch) = false → exec (.frameEnd ch ta data) s = .next s) ∧
    ∀ f, (s.chan ch).frame = some f → f.rate.isSome = true → s.cu.softResetting = false →
      ∃ t, exec (.frameEnd ch ta data) s = .next t ∧
        (∀ a : BusAddr, (t.chan ch).established.getLsbD a.toNat =
          if a = f.frame.device then
            (if f.frame.op = .read ∧ ta = true then false
              else f.preamble || (s.chan ch).established.getLsbD a.toNat)
          else (s.chan ch).established.getLsbD a.toNat) ∧
        (t.chan (other ch)).frame = (s.chan (other ch)).frame ∧
        (t.chan (other ch)).established = (s.chan (other ch)).established ∧
        (t.chan ch).divider = (s.chan ch).divider ∧ (t.chan ch).hostWeight = (s.chan ch).hostWeight ∧
        t.ps = s.ps ∧ t.att = s.att ∧ t.stamp = s.stamp ∧ t.pending = s.pending

/-- R26, R59, R64, R87, R88, R116 to R118, R133, R184, R190: the frame in flight of an abort drain reaches its last bit.
The unit that holds the channel ends: what a piece or a member that has ended with this frame read is taken (for a fetch,
assumption 7; for an identity, assumptions 8 and 22), a probe or presence check goes back to the front of its queue, every
member still to come completes ABORTED; then the units queued complete ABORTED and the channel is free, in one claim
(assumption 25). CHANNEL_ABORT completes with it; SOFT_RESET waits for the other channel, the freed channel meanwhile
without a decision (R103, assumption 6), or takes the reset of dynamic state, which keeps a refresh already due, the levels
last sent and the noted level of MDIO (assumptions 15, 10) and gives an indicator record the slots of power-on
(assumption 13). -/
def Obligations.DrainsEndWithTheFrameInFlight : Prop :=
  ∀ (s : State) (ch : Chan) (f : FlyingFrame) (ta : Bool) (data : Word), s.rstnLow = false →
    (s.chan ch).drain = .abort → (s.chan ch).frame = some f → f.rate.isSome = true →
    let c := s.chan ch
    let res := frameResult f ta data
    let g := frameGone c f res
    let x := s.setChan ch g
    let freed := fun (y : State) (q : Scheduler) (l : List Completion) (cu : CommandUnit) => State.setChan
      { y with
        cu := cu
        ht := { y.ht with completions := y.ht.completions ++ l ++ allWith c.hostQueue.flatten .aborted } } ch
      (aborted { g with sched := q })
    let aboutJob := fun (j : Job) (y : State) =>
      let n := j.access.advance (fun w => decide (j.current = .fetch) && j.profile.wantsConfirm j.access.loc w) res
      y = if n.2 = true then pieceHanded x j n.1 else x
    let aboutHost := fun (r : HostRun) (y : State) (l : List Completion) =>
      let m := r.current
      let n := m.access.advance (fun w => decide (∃ g, m.profile = some g ∧ g.wantsConfirm m.access.loc w = true)) res
      (n.2 = false → y = x ∧ l = r.done ++ allWith (m.txn :: r.todo) .aborted) ∧
      (n.2 = true → MemberOffered x y ch m n.1 ∧ l = r.done ++ memberRecord m n.1 :: allWith r.todo .aborted)
    (s.cu.timed = some ⟨18, decide (ch = .ch0), decide (ch = .ch1)⟩ →
      (∀ j, c.held = some (.job j) → (j.kind = .urgent ∨ j.kind = .regular ∨ j.stale = true) →
        ∃ y t, aboutJob j y ∧ exec (.frameEnd ch ta data) s = .next t ∧
          DecidedFrom (freed y c.sched [] (completed s.cu 18)) t ch) ∧
      (∀ j b k, c.held = some (.job j) → j.stale = false → j.kind = k.unit →
        (s.port j.port).state = memberState k → (s.port j.port).binding = some b → b.channel = ch →
        ∃ y t, aboutJob j y ∧ exec (.frameEnd ch ta data) s = .next t ∧
          DecidedFrom (freed y (withProbeFirst c.sched j.port k) [] (completed s.cu 18)) t ch) ∧
      (∀ r, c.held = some (.host r) →
        ∃ y l t, aboutHost r y l ∧ exec (.frameEnd ch ta data) s = .next t ∧
          DecidedFrom (freed y c.sched l (completed s.cu 18)) t ch)) ∧
    ∀ w0 w1, s.cu.timed = some ⟨20, w0, w1⟩ →
      ((if ch = .ch0 then w1 else w0) = false →
        exec (.frameEnd ch ta data) s = .next (softened s (completed s.cu 20))) ∧
      ((if ch = .ch0 then w1 else w0) = true →
        let waiting : CommandUnit := { s.cu with timed := some ⟨20, w0 && decide (ch ≠ .ch0), w1 && decide (ch ≠ .ch1)⟩ }
        (∀ j, c.held = some (.job j) →
          ∃ y, aboutJob j y ∧ exec (.frameEnd ch ta data) s = .next (freed y c.sched [] waiting)) ∧
        (∀ r, c.held = some (.host r) →
          ∃ y l, aboutHost r y l ∧ exec (.frameEnd ch ta data) s = .next (freed y c.sched l waiting)))

/-- R115, R77, R117, R118, R119, R188: the three channel commands, by the channel's state. CHANNEL_ENABLE turns a channel
on, off at once, or begins the timed disable. CHANNEL_ABORT with a frame on the lines begins the timed drain; otherwise the
unit held and the units queued end at once, in one claim (assumption 25). CHANNEL_RESTART samples the line of a HALTED
channel. Both rows of CHANNEL_ENABLE are one write; its arguments decide (assumption 4). The level of the line comes with the row
(assumption 10). -/
def Obligations.ChannelCommandsActByState : Prop :=
  ∀ (hi : BitVec 8) (s : State), Ready s →
    (1 < s.argChannel →
      exec (.channelAbort hi) s = .next { s with cu := shown s.cu hi 18 .badArg 0 none } ∧
      exec (.channelEnableOn hi) s = .next { s with cu := shown s.cu hi 17 .badArg 0 none } ∧
      exec (.channelEnableOff hi) s = .next { s with cu := shown s.cu hi 17 .badArg 0 none } ∧
      ∀ m, exec (.channelRestart hi m) s = .next { s with cu := shown s.cu hi 19 .badArg 0 none }) ∧
    ∀ ch : Chan, s.argChannel = chanNumber ch →
      let c := s.chan ch
      let done := { s with cu := shown s.cu hi 17 .done 0 none }
      let gone := fun (q : Scheduler) (l : List Completion) => State.setChan
        { s with
          cu := shown s.cu hi 18 .done 0 none
          ht := { s.ht with completions := s.ht.completions ++ l ++ allWith c.hostQueue.flatten .aborted } } ch
        (aborted { c with sched := q })
      (s.argOn = true →
        (c.state ≠ .off → exec (.channelEnableOn hi) s = .next done) ∧
        (c.state = .off → ∃ t, exec (.channelEnableOn hi) s = .next t ∧
          DecidedFrom (done.setChan ch
            { c with
              enabled := true, state := .idle
              sched := { c.sched with passTimer := .running c.sched.passInterval } }) t ch)) ∧
      (s.argOn = false →
        (c.state = .off → exec (.channelEnableOff hi) s = .next done) ∧
        ((c.state = .halted ∨ ((c.state = .idle ∨ c.state = .busy) ∧ c.held = none ∧ c.frame = none)) →
          exec (.channelEnableOff hi) s = .next (done.setChan ch (turnedOff c))) ∧
        ((c.state = .idle ∨ c.state = .busy) → c.held.isSome = true →
          exec (.channelEnableOff hi) s = .next (State.setChan
            { s with cu := { shown s.cu hi 17 .inProgress 0 none with
                timed := some ⟨17, decide (ch = .ch0), decide (ch = .ch1)⟩ } } ch
            { c with enabled := false, state := .draining, drain := .disable }))) ∧
      (started c = true → exec (.channelAbort hi) s = .next (State.setChan
        { s with cu := { shown s.cu hi 18 .inProgress 0 none with
            timed := some ⟨18, decide (ch = .ch0), decide (ch = .ch1)⟩ } } ch
        { c with state := .draining, drain := .abort })) ∧
      (started c = false →
        (c.held = none → ∃ t, exec (.channelAbort hi) s = .next t ∧ DecidedFrom (gone c.sched []) t ch) ∧
        (∀ r, c.held = some (.host r) → ∃ t, exec (.channelAbort hi) s = .next t ∧
          DecidedFrom (gone c.sched (r.done ++ allWith (r.current.txn :: r.todo) .aborted)) t ch) ∧
        (∀ j, c.held = some (.job j) → (j.kind = .urgent ∨ j.kind = .regular ∨ j.stale = true) →
          ∃ t, exec (.channelAbort hi) s = .next t ∧ DecidedFrom (gone c.sched []) t ch) ∧
        (∀ j b k, c.held = some (.job j) → j.stale = false → j.kind = k.unit →
          (s.port j.port).state = memberState k → (s.port j.port).binding = some b → b.channel = ch →
          ∃ t, exec (.channelAbort hi) s = .next t ∧
            DecidedFrom (gone (withProbeFirst c.sched j.port k) []) t ch)) ∧
      (c.state ≠ .halted → ∀ m, exec (.channelRestart hi m) s = .next
        { s with cu := shown s.cu hi 19 .badState 0 none }) ∧
      (c.state = .halted →
        exec (.channelRestart hi false) s = .next (State.setChan
          { s with cu := shown s.cu hi 19 .fault 0 none } ch { c with mdioHigh := false }) ∧
        ∃ t, exec (.channelRestart hi true) s = .next t ∧
          DecidedFrom (State.setChan { s with cu := shown s.cu hi 19 .done 0 none } ch
            { c with mdioHigh := true, state := .idle, established := 0 }) t ch)

/-- R190, R117, R138 and the SOFT_RESET columns of §§1.8, 2.6, 3.8, 4.8, 5.8, 6.10, 7.8, 8.7, 9.8, 10.6: with no frame
on the lines the reset of dynamic state is taken at once; otherwise the channels with a frame on the lines drain, the drain
of the other ends at once with its ABORTED records, and the command is timed; a channel so freed waits with no decision
until the command completes (R103, assumption 6). The host-turn counters are the weights (R103). The model's choices are that a refresh
already due and the levels last sent stay (assumption 15), as the noted level of MDIO does (assumption 10), that the
slots of the OFF patterns of an indicator record are 0 (assumption 13), and that the records of a unit and of the units
queued are placed in the one claim (assumption 25). -/
def Obligations.SoftResetKeepsTheConfiguration : Prop :=
  ∀ (hi : BitVec 8) (s : State), Ready s →
    (started s.ch0 = false → started s.ch1 = false → exec (.softReset hi) s = .next
      { s with
        cu := shown s.cu hi 20 .done 0 none
        pt := { s.pt with ports := Vector.replicate 24 PortRec.reset, view := none }
        ch0 := softChannel s.ch0
        ch1 := softChannel s.ch1
        att := .reset
        ht := .reset
        ev := { EventBlock.reset with
          threshold := s.ev.threshold, holdoff := s.ev.holdoff, enables := s.ev.enables }
        ie := { s.ie with
          records := Vector.replicate 48 .reset
          slots := mapVec (fun t => RateSlot.restarted t.half) s.ie.slots
          flash := Vector.replicate 24 .reset } }) ∧
    ((started s.ch0 || started s.ch1) = true → exec (.softReset hi) s = .next
      { s with
        cu := { shown s.cu hi 20 .inProgress 0 none with timed := some ⟨20, started s.ch0, started s.ch1⟩ }
        ch0 := drainBegun s.ch0
        ch1 := drainBegun s.ch1
        ht := { s.ht with completions := s.ht.completions ++ drainRecords s.ch0 ++ drainRecords s.ch1 } })

/-- R106, R108: the bits of a management frame on the wire, and how long it lasts. -/
def Obligations.ManagementFrameOnTheWire : Prop :=
  ∀ (f : Frame) (pre : Bool) (d : Nat),
    (f.wire pre).length = (if pre then 64 else 32) ∧
    (f.wire true) = List.replicate 32 .one ++ f.wire false ∧
    (f.wire false).take 2 = [.zero, .one] ∧
    ((f.wire false).drop 2).take 2 = (if f.op = .read then [.one, .zero] else [.zero, .one]) ∧
    (∀ k : Fin 5, (f.wire false)[4 + k.val]? = some (.of (f.device.getLsbD (4 - k.val))) ∧
      (f.wire false)[9 + k.val]? = some (.of (f.reg.getLsbD (4 - k.val)))) ∧
    (f.op = .read → (f.wire false).drop 14 = List.replicate 18 .released) ∧
    (∀ w, f.op = .write w → ((f.wire false).drop 14).take 2 = [.one, .zero] ∧
      ∀ k : Fin 16, (f.wire false)[16 + k.val]? = some (.of (w.getLsbD (15 - k.val)))) ∧
    frameCycles f pre d = (if pre then 64 else 32) * (2 * (d + 1))

/-! ### Host Transaction Unit (Chapter 7) -/

/-- R125 (g), R126, R127: an accepted POST of each kind: a new unit, a new chain, or a further member of the open
chain, one more outstanding, and a notice to the channel's arbiter. The three rows are one write; its arguments
decide (assumption 4). The count that ties an ITEM_READ to its binding is the model's own (assumption 15). -/
def Obligations.PostPlacesItsTransaction : Prop :=
  ∀ (hi : BitVec 8) (s : State) (i : Instr) (x : HostTxn) (queue : List (List HostTxn)), Ready s →
    postAsks s hi i x → s.ht.outstanding < 16 →
    let c := s.chan x.channel
    ((c.chainOpen = false ∧ c.hostQueue.length < 8 ∧ queue = c.hostQueue ++ [[x]]) ∨
      (c.chainOpen = true ∧ ∃ before u, c.hostQueue = before ++ [u] ∧ (s.argContinue = true → u.length < 3) ∧
        queue = before ++ [u ++ [x]])) →
    ∃ t, exec i s = .next t ∧
      DecidedFrom (State.setChan
        { s with
          cu := shown s.cu hi 11 .done 0 none
          ht := { s.ht with outstanding := s.ht.outstanding + 1 } } x.channel
        { c with hostQueue := queue, chainOpen := s.argContinue }) t x.channel

/-- R125 (a) to (f): the refusals of POST, in their order; a refused POST changes only the Command Unit. The three
rows are one write; its arguments decide (assumption 4). -/
def Obligations.RefusedPostChangesNothing : Prop :=
  ∀ (hi : BitVec 8) (s : State), Ready s →
    let no := fun (r : ResultCode) (sub : BitVec 8) =>
      Host.Outcome.next (φ := Fault) (ρ := Refusal) { s with cu := shown s.cu hi 11 r sub none }
    (s.argKind = 3 → exec (.postItemRead hi) s = no .badArg 0) ∧
    ((1 < s.argChannel ∨ 31 < s.argDevice ∨ 31 < s.argRegister) →
      (s.argKind = 0 → exec (.postRawRead hi) s = no .badArg 0) ∧
      (s.argKind = 1 → exec (.postRawWrite hi) s = no .badArg 0)) ∧
    (s.argKind = 2 →
      ((23 < s.argTarget ∨ 7 < s.argItem) → exec (.postItemRead hi) s = no .badArg 0) ∧
      ∀ (p : PortId) (item : Item), s.argTarget = p.val → s.argItem = item.index →
        ((s.port p).binding = none → exec (.postItemRead hi) s = no .badState 0) ∧
        (∀ b f, (s.port p).binding = some b → s.profile b.profile = some f → f.recipes.get item = none →
          exec (.postItemRead hi) s = no .badArg 12)) ∧
    (∀ i x, postAsks s hi i x →
      ((s.chan x.channel).chainOpen = true → s.argContinue = true → 3 ≤ (s.chan x.channel).tailMembers →
        exec i s = no .badArg 13) ∧
      ((s.chan x.channel).chainOpen = false → 8 ≤ (s.chan x.channel).hostQueue.length → exec i s = no .full 0) ∧
      (16 ≤ s.ht.outstanding → ((s.chan x.channel).chainOpen = true → s.argContinue = true →
        (s.chan x.channel).tailMembers < 3) → exec i s = no .full 0))

/-- R134, R180: TAKE_COMPLETION, and the words of the completion view, field by field (Figure 10-5). -/
def Obligations.TakeCompletionHandsOverTheOldest : Prop :=
  ∀ (hi : BitVec 8) (s : State), Ready s →
    (s.ht.completions = [] → exec (.takeCompletion hi) s = .next { s with cu := shown s.cu hi 12 .empty 0 none }) ∧
    ∀ r rest, s.ht.completions = r :: rest → ∃ t, exec (.takeCompletion hi) s = .next t ∧
      t = { s with
        cu := shown s.cu hi 12 .done 0 none
        ht := { completions := rest, outstanding := s.ht.outstanding - 1, view := some r } } ∧
      (t.readWord 0x38).getLsbD 15 = true ∧ (t.readWord 0x38).extractLsb' 0 8 = r.txn.tag ∧
      (t.readWord 0x38).getLsbD 14 = r.data.isSome ∧ t.readWord 0x3A = r.data.getD 0 ∧ t.readWord 0x3B = 0 ∧
      (∀ x ∈ hostResultCodes, r.result = x.1 → bits (t.readWord 0x38) 8 4 = x.2) ∧
      bits (t.readWord 0x39) 0 1 = chanNumber r.txn.channel ∧
      (∀ (d reg : BusAddr), r.txn.op = .rawRead d reg → bits (t.readWord 0x38) 12 2 = 0 ∧
        bits (t.readWord 0x39) 1 5 = d.toNat ∧ bits (t.readWord 0x39) 6 5 = reg.toNat) ∧
      (∀ (d reg : BusAddr) (w : Word), r.txn.op = .rawWrite d reg w → bits (t.readWord 0x38) 12 2 = 1 ∧
        bits (t.readWord 0x39) 1 5 = d.toNat ∧ bits (t.readWord 0x39) 6 5 = reg.toNat) ∧
      ∀ (p : PortId) (i : Item) (n : Nat), r.txn.op = .itemRead p i n → bits (t.readWord 0x38) 12 2 = 2 ∧
        bits (t.readWord 0x39) 1 5 = p.val ∧ bits (t.readWord 0x39) 11 3 = i.index

/-! ### Event Queue and Notification (Chapter 8) -/

/-- R145, R146, R150, R180: POP_EVENT, and the words of the event view, field by field (Figure 10-5). That the bits of 36H
without a field read 0 is the model's choice (assumption 24). -/
def Obligations.PopEventHandsOverTheOldest : Prop :=
  ∀ (hi : BitVec 8) (s : State), Ready s →
    (s.ev.queue = [] → exec (.popEvent hi) s = .next { s with cu := shown s.cu hi 13 .empty 0 none }) ∧
    ∀ r rest, s.ev.queue = r :: rest → ∃ t, exec (.popEvent hi) s = .next t ∧
      t = { s with
        cu := shown s.cu hi 13 .done 0 none
        ev := { s.ev with
          queue := rest
          view := some ⟨r, rest.length, s.ev.overflow⟩
          overflow := if rest = [] then false else s.ev.overflow
          timer := if rest = [] then .stopped else s.ev.timer } } ∧
      (t.readWord 0x30).getLsbD 15 = true ∧ (t.readWord 0x30).getLsbD 14 = s.ev.overflow ∧
      t.readWord 0x34 = r.firstStamp ∧ t.readWord 0x35 = r.lastStamp ∧ t.readWord 0x37 = 0 ∧
      (rest.length ≤ 63 → t.readWord 0x36 = BitVec.ofNat 16 rest.length) ∧
      (r.repeats ≤ 255 → bits (t.readWord 0x33) 8 8 = r.repeats) ∧
      (∀ (p : PortId) (i : Item) (o n : Option ItemValue) (c : Cause), r.body = .itemChange p i o n c →
        bits (t.readWord 0x30) 0 5 = p.val ∧ bits (t.readWord 0x30) 8 3 = i.index ∧ bits (t.readWord 0x30) 12 2 = 0 ∧
        ShowsValue (t.readWord 0x31) o ∧ ShowsValue (t.readWord 0x32) n ∧ (t.readWord 0x33).getLsbD 0 = o.isSome ∧
        (t.readWord 0x33).getLsbD 1 = n.isSome ∧ ∀ x ∈ causeCodes, c = x.1 → bits (t.readWord 0x33) 2 4 = x.2) ∧
      (∀ (p : PortId) (o n : PortState) (why : Option Reason), r.body = .stateChange p o n why →
        bits (t.readWord 0x30) 0 5 = p.val ∧ bits (t.readWord 0x30) 8 3 = 0 ∧ bits (t.readWord 0x30) 12 2 = 1 ∧
        (∀ x ∈ stateCodes, (o = x.1 → (t.readWord 0x31).toNat = x.2) ∧ (n = x.1 → (t.readWord 0x32).toNat = x.2)) ∧
        (t.readWord 0x33).getLsbD 0 = true ∧ (t.readWord 0x33).getLsbD 1 = true ∧
        ∀ x ∈ reasonCodes, why = x.1 → bits (t.readWord 0x33) 2 4 = x.2) ∧
      ∀ ch : Chan, r.body = .channelFault ch →
        bits (t.readWord 0x30) 0 5 = chanNumber ch ∧ bits (t.readWord 0x30) 8 3 = 0 ∧
        bits (t.readWord 0x30) 12 2 = 2 ∧ t.readWord 0x31 = 1 ∧ t.readWord 0x32 = 0 ∧
        bits (t.readWord 0x33) 2 4 = 0 ∧ (t.readWord 0x33).getLsbD 0 = true ∧ (t.readWord 0x33).getLsbD 1 = false

/-- R141 to R144, R10, R150: how a posted event is taken: folded into the record with its key, stored at the tail, or
refused with the overflow flag, OVF and RESYNC. -/
def Obligations.PostedEventIsFoldedStoredOrRefused : Prop :=
  ∀ (s : State) (b : EventBody),
    let t := s.post b
    ((∃ r ∈ s.ev.queue, r.body.key = b.key) →
      t = { s with ev := { s.ev with queue := t.ev.queue } } ∧ t.ev.queue.length = s.ev.queue.length ∧
      ∀ (n : Nat) (r : EventRec), s.ev.queue[n]? = some r →
        (r.body.key ≠ b.key → t.ev.queue[n]? = some r) ∧
        (r.body.key = b.key → ∃ r', t.ev.queue[n]? = some r' ∧ r'.firstStamp = r.firstStamp ∧
          r'.lastStamp = s.stamp ∧ r'.repeats = (if r.repeats < 255 then r.repeats + 1 else r.repeats) ∧
          (∀ p i o n' c o' n'' c', r.body = .itemChange p i o n' c → b = .itemChange p i o' n'' c' →
            r'.body = .itemChange p i o n'' c') ∧
          (∀ p o n' w o' n'' w', r.body = .stateChange p o n' w → b = .stateChange p o' n'' w' →
            r'.body = .stateChange p o n'' w') ∧
          (∀ ch, b = .channelFault ch → r'.body = .channelFault ch))) ∧
    ((∀ r ∈ s.ev.queue, r.body.key ≠ b.key) → s.ev.queue.length < 64 →
      t = { s with ev := { s.ev with
        queue := s.ev.queue ++ [⟨b, 1, s.stamp, s.stamp⟩]
        timer := if s.ev.queue = [] then (if s.ev.holdoff = 0 then .expired else .running s.ev.holdoff)
          else s.ev.timer } }) ∧
    ((∀ r ∈ s.ev.queue, r.body.key ≠ b.key) → 64 ≤ s.ev.queue.length →
      t.ev = { s.ev with overflow := true, ovf := true } ∧
      (∀ p, b.port? = some p → t =
        { s with
          ev := t.ev
          pt := { s.pt with ports := s.pt.ports.set p { s.port p with resync := true } } }) ∧
      (b.port? = none → t = { s with ev := t.ev }))

/-- R148 to R154: the writes of the interrupt and notification groups, the holdoff expiry, the level causes, and
IRQN. A holdoff timer that is not due expires for nobody (assumption 3). That the bits of a written 08H or 09H without a
field are ignored is the model's choice (assumption 24). -/
def Obligations.CausesEnablesAndIrqn : Prop :=
  (∀ (v : Word) (s : State), s.rstnLow = false →
    exec (.writeInterruptCauses v) s = .next
      { s with ev := { s.ev with
        ovf := if bit v 2 then false else s.ev.ovf, chf := if bit v 3 then false else s.ev.chf } } ∧
    exec (.writeInterruptEnables v) s = .next
      { s with ev := { s.ev with enables := ⟨bit v 0, bit v 1, bit v 2, bit v 3⟩ } }) ∧
  (∀ (v : Word) (s : State), Ready s →
    (1 ≤ v.toNat → v.toNat ≤ 64 → exec (.writeEventThreshold v) s = .next
      { s with ev := { s.ev with threshold := v.toNat }, cu := checkedShown s.cu 0x0A .done }) ∧
    ((v.toNat = 0 ∨ 64 < v.toNat) →
      exec (.writeEventThreshold v) s = .next { s with cu := checkedShown s.cu 0x0A .badArg }) ∧
    exec (.writeHoldoff v) s = .next
      { s with ev := { s.ev with holdoff := v.toNat }, cu := checkedShown s.cu 0x0B .done }) ∧
  (∀ s : State, s.rstnLow = false →
    (s.ev.timer = .running 0 → exec .holdoffExpiry s = .next { s with ev := { s.ev with timer := .expired } }) ∧
    (s.ev.timer ≠ .running 0 → exec .holdoffExpiry s = .next s)) ∧
  ∀ s : State,
    (s.ev.evq = true ↔ (s.ev.threshold ≤ s.ev.queue.length ∨ (1 ≤ s.ev.queue.length ∧ s.ev.timer = .expired))) ∧
    (s.ht.cmpl = true ↔ s.ht.completions ≠ []) ∧
    (s.irqn = false ↔ (s.rstnLow = false ∧
      ((s.ev.evq = true ∧ s.ev.enables.evq = true) ∨ (s.ht.cmpl = true ∧ s.ev.enables.cmpl = true) ∨
        (s.ev.ovf = true ∧ s.ev.enables.ovf = true) ∨ (s.ev.chf = true ∧ s.ev.enables.chf = true))))

/-! ### Indicator Engine (Chapter 9) -/

/-- R158, R166, R170, R181: the checked writes of the indicator group. That word 63H keeps the rate slot of a pattern that
takes none is the model's choice (assumption 13), and so is that bits without a field cause no refusal (assumption 24). -/
def Obligations.IndicatorGroupWrites : Prop :=
  ∀ (v : Word) (s : State), Ready s →
    let r := s.ie.records[s.ie.index]
    let no := fun (a : BitVec 7) =>
      Host.Outcome.next (φ := Fault) (ρ := Refusal) { s with cu := checkedShown s.cu a .badArg }
    let put := fun (a : BitVec 7) (r' : IndicatorRec) =>
      Host.Outcome.next (φ := Fault) (ρ := Refusal)
        { s with ie := { s.ie with records := s.ie.records.set s.ie.index r' }, cu := checkedShown s.cu a .done }
    (∀ i : IndicatorId, v.toNat = i.val → exec (.writeIndicatorIndex v) s = .next
      { s with ie := { s.ie with index := i }, cu := checkedShown s.cu 0x60 .done }) ∧
    (47 < v.toNat → exec (.writeIndicatorIndex v) s = no 0x60) ∧
    (∀ (c : Condition) (p : PortId), bits v 0 4 = c.code → bits v 4 5 = p.val →
      exec (.writeIndicatorRecord 0 v) s = put 0x61 { r with condition := c, port := p, activeHigh := !bit v 9 }) ∧
    ((11 < bits v 0 4 ∨ 23 < bits v 4 5) → exec (.writeIndicatorRecord 0 v) s = no 0x61) ∧
    (∀ (c : SpeedCode), bit v 2 = false → bits v 0 2 = c.code →
      exec (.writeIndicatorRecord 1 v) s = put 0x62
        { r with
          speed := c, states := ⟨bit v 3, bit v 4, bit v 5, bit v 6, bit v 7⟩
          channel := if bit v 8 then .ch1 else .ch0 }) ∧
    (bit v 2 = true → exec (.writeIndicatorRecord 1 v) s = no 0x62) ∧
    (∀ (a b : PatternKind) (m n : Fin 4), bits v 0 3 = a.code → bits v 3 2 = m.val → bits v 8 3 = b.code →
      bits v 11 2 = n.val →
      exec (.writeIndicatorRecord 2 v) s = put 0x63 { r with whenTrue := ⟨a, m⟩, whenFalse := ⟨b, n⟩ }) ∧
    ((5 < bits v 0 3 ∨ 5 < bits v 8 3) → exec (.writeIndicatorRecord 2 v) s = no 0x63) ∧
    (v.toNat ∈ [8, 16, 24, 32, 40, 48] → exec (.writeChainLength v) s = .next
      { s with ie := { s.ie with chainLength := v.toNat }, cu := checkedShown s.cu 0x66 .done }) ∧
    (v.toNat ∉ [8, 16, 24, 32, 40, 48] → exec (.writeChainLength v) s = no 0x66) ∧
    (1 ≤ v.toNat → v.toNat ≤ 25 → exec (.writeFlashWidth v) s = .next
      { s with ie := { s.ie with flashWidth := v.toNat }, cu := checkedShown s.cu 0x67 .done }) ∧
    ((v.toNat = 0 ∨ 25 < v.toNat) → exec (.writeFlashWidth v) s = no 0x67)

/-- R167, R168: OVERRIDE, CANCEL_OVERRIDE and the expiry of an override; an override that is not due expires for nobody
(assumption 3). That the slot argument is kept under every pattern is the model's choice (assumption 13). -/
def Obligations.OverridesAreSetAndRemoved : Prop :=
  (∀ (hi : BitVec 8) (s : State), Ready s →
    ((47 < s.argTarget ∨ 5 < s.argPattern) →
      exec (.override hi) s = .next { s with cu := shown s.cu hi 14 .badArg 0 none }) ∧
    (47 < s.argTarget → exec (.cancelOverride hi) s = .next { s with cu := shown s.cu hi 15 .badArg 0 none }) ∧
    ∀ i : IndicatorId, s.argTarget = i.val →
      (∀ k : PatternKind, s.argPattern = k.code → exec (.override hi) s = .next
        { s with
          cu := shown s.cu hi 14 .done 0 none
          ie := { s.ie with records := s.ie.records.set i (
            { s.ie.records[i] with
              override := some
                ⟨⟨k, s.argSlot⟩, if (s.arg 2).toNat = 0 then none else some (1000 * (s.arg 2).toNat)⟩ }) } }) ∧
      (s.ie.records[i].override = none →
        exec (.cancelOverride hi) s = .next { s with cu := shown s.cu hi 15 .empty 0 none }) ∧
      (s.ie.records[i].override ≠ none → exec (.cancelOverride hi) s = .next
        { s with
          cu := shown s.cu hi 15 .done 0 none
          ie := { s.ie with records := s.ie.records.set i { s.ie.records[i] with override := none } } })) ∧
  ∀ (i : IndicatorId) (s : State), s.rstnLow = false →
    (∀ o, s.ie.records[i].override = some o → o.timer = some 0 → exec (.overrideExpiry i) s = .next
      { s with ie := { s.ie with records := s.ie.records.set i { s.ie.records[i] with override := none } } }) ∧
    ((∀ o, s.ie.records[i].override = some o → o.timer ≠ some 0) → exec (.overrideExpiry i) s = .next s)

/-- R162 to R164: SET_RATE in both modes and the toggle of a rate slot; a phase timer that is not due expires for
nobody (assumption 3). Both rows of SET_RATE are one write; its arguments decide (assumption 4). -/
def Obligations.RateSlotsDeferRestartAndToggle : Prop :=
  (∀ (hi : BitVec 8) (s : State), Ready s →
    ((3 < s.argTarget ∨ (s.arg 2).toNat = 0 ∨ 255 < (s.arg 2).toNat ∨ 1 < s.argMode) →
      exec (.setRateDeferred hi) s = .next { s with cu := shown s.cu hi 16 .badArg 0 none } ∧
      exec (.setRateImmediate hi) s = .next { s with cu := shown s.cu hi 16 .badArg 0 none }) ∧
    ∀ n : Fin 4, s.argTarget = n.val → 1 ≤ (s.arg 2).toNat → (s.arg 2).toNat ≤ 255 →
      (s.argMode = 0 → exec (.setRateDeferred hi) s = .next
        { s with
          cu := shown s.cu hi 16 .done 0 none
          ie := { s.ie with slots := s.ie.slots.set n { s.ie.slots[n] with pending := some (s.arg 2).toNat } } }) ∧
      (s.argMode = 1 → exec (.setRateImmediate hi) s = .next
        { s with
          cu := shown s.cu hi 16 .done 0 none
          ie := { s.ie with slots := s.ie.slots.set n (
            { half := (s.arg 2).toNat, pending := none, phaseOn := true, timer := 10 * (s.arg 2).toNat }) } })) ∧
  ∀ (n : Fin 4) (s : State), s.rstnLow = false →
    (s.ie.slots[n].timer ≠ 0 → exec (.ratePhaseExpiry n) s = .next s) ∧
    (s.ie.slots[n].timer = 0 → ∀ h, h = s.ie.slots[n].pending.getD s.ie.slots[n].half →
      exec (.ratePhaseExpiry n) s = .next
        { s with ie := { s.ie with slots := s.ie.slots.set n (
          { half := h, pending := none, phaseOn := !s.ie.slots[n].phaseOn, timer := 10 * h }) } })

/-- R159, R160, R161, R165, R169: the levels a refresh fixes, and the expiry of a flash machine's pulse or gap; a refresh
or an expiry that is not due is taken by nobody (assumption 3). The refresh due and the levels sent are the model's own
fields (assumption 15). -/
def Obligations.RefreshFixesTheLevels : Prop :=
  (∀ s : State, s.rstnLow = false →
    (s.ie.refreshDue = false → exec .indicatorRefresh s = .next s) ∧
    (s.ie.refreshDue = true → ∃ levels, exec .indicatorRefresh s = .next
        { s with ie := { s.ie with refreshDue := false, shifted := levels } } ∧
      levels.length = min s.ie.chainLength 48 ∧
      ∀ k : IndicatorId, k.val < s.ie.chainLength →
        let r := s.ie.records[k]
        let pattern := match r.override with
          | some o => o.pattern
          | none => if s.judged r then r.whenTrue else r.whenFalse
        levels[k.val]? = some (litUnder s.ie pattern r.port == r.activeHigh))) ∧
  (∀ (s : State) (r : IndicatorRec),
    let q := s.port r.port
    (r.condition = .none → s.judged r = false) ∧ (r.condition = .always → s.judged r = true) ∧
    (r.condition = .linkUp → (s.judged r = true ↔ (q.bound = true ∧ q.mirror.link = some (.flag true)))) ∧
    (r.condition = .linkStickyDown → (s.judged r = true ↔ (q.bound = true ∧ q.stickyDown = true))) ∧
    (r.condition = .speedIs → (s.judged r = true ↔ (q.bound = true ∧ q.mirror.speed = some (.speed r.speed)))) ∧
    (r.condition = .fullDuplex → (s.judged r = true ↔ (q.bound = true ∧ q.mirror.duplex = some (.flag true)))) ∧
    (r.condition = .negPending → (s.judged r = true ↔ (q.bound = true ∧ q.mirror.neg = some (.flag false)))) ∧
    (r.condition = .rfaultSticky → (s.judged r = true ↔ (q.bound = true ∧ q.stickyFault = true))) ∧
    (r.condition = .energy → (s.judged r = true ↔ (q.bound = true ∧ q.mirror.energy = some (.flag true)))) ∧
    (r.condition = .portStateIn → (s.judged r = true ↔
      (q.state = .probing ∧ r.states.probing = true ∨ q.state = .active ∧ r.states.active = true ∨
        q.state = .lost ∧ r.states.lost = true ∨ q.state = .suspended ∧ r.states.suspended = true ∨
        q.state = .failed ∧ r.states.failed = true))) ∧
    (r.condition = .channelHalted → (s.judged r = true ↔ (s.chan r.channel).state = .halted)) ∧
    (r.condition = .eventsPending → (s.judged r = true ↔ s.ev.queue ≠ []))) ∧
  ∀ (p : PortId) (s : State), s.rstnLow = false →
    let m := s.ie.flash[p]
    let put := fun (m' : FlashMachine) =>
      Host.Outcome.next (φ := Fault) (ρ := Refusal) { s with ie := { s.ie with flash := s.ie.flash.set p m' } }
    ((m.timer ≠ 0 ∨ m.phase = .idle) → exec (.flashPhaseExpiry p) s = .next s) ∧
    (m.timer = 0 → m.phase = .pulse →
      exec (.flashPhaseExpiry p) s = put { m with phase := .gap, timer := 10 * s.ie.flashWidth }) ∧
    (m.timer = 0 → m.phase = .gap → m.pending = true →
      exec (.flashPhaseExpiry p) s = put ⟨.pulse, 10 * s.ie.flashWidth, false⟩) ∧
    (m.timer = 0 → m.phase = .gap → m.pending = false → exec (.flashPhaseExpiry p) s = put ⟨.idle, 0, false⟩)

/-! ### Laws that every step keeps, from any state that has them -/

/-- R141, R143, R150, R151: the laws of the event queue. -/
def Obligations.EveryStepKeepsTheEventLaw : Prop :=
  ∀ s t : State, EventLaw s.ev → step s = .next t → EventLaw t.ev

/-- R126, R127, R128: the credit of host work: the outstanding count is queued plus in flight plus not yet taken, at most
16. -/
def Obligations.EveryStepKeepsTheCreditLaw : Prop :=
  ∀ s t : State, CreditLaw s → step s = .next t → CreditLaw t

/-- R2, R3, R5, R7, R18, R48, R66: the laws of the port records: the sticky law, PARTNER under NEG, value domains, limits,
and no two bound ports at one bus place. -/
def Obligations.EveryStepKeepsThePortLaw : Prop :=
  ∀ s t : State, PortLaw s.pt → step s = .next t → PortLaw t.pt

/-- R72, R92, R94, R102, R105, R108, R112, R184: the laws of the channels: weight and counter, the divider, one
frame and only of the held unit, the channel states, and the drains that a timed command awaits. That an IDLE
channel holds no unit is how the model hands frames over (assumption 17). -/
def Obligations.EveryStepKeepsTheChannelsLaw : Prop :=
  ∀ s t : State, ChannelsLaw s → step s = .next t → ChannelsLaw t

/-- Every law of the part together, with R83 (queue membership), R39 and R43 (jobs and profiles) and R45 (a PROBING
or LOST port has exactly one of its three kinds of work), and R40 and R181 (the ranges of the staging record). While
SOFT_RESET drains the part the law of R45 waits (assumption 6). That an IDLE channel holds no unit is how the model hands
frames over (assumption 17). -/
def Obligations.EveryStepKeepsThePartLawful : Prop :=
  ∀ s t : State, Lawful s → step s = .next t → Lawful t

/-- R175: the port view, the event view and the completion view change only when the command of their kind is taken, or at
a reset. -/
def Obligations.ViewsChangeOnlyByTheirCommands : Prop :=
  ∀ (i : Instr) (s t : State), i.wellFormed = true → isReset i = false → isSoftReset i = false →
    s.cu.softResetting = false → exec i s = .next t →
    (isSnapshot i = false → t.pt.view = s.pt.view) ∧ (isPop i = false → t.ev.view = s.ev.view) ∧
    (isTake i = false → t.ht.view = s.ht.view)

/-- R2, R43: while a port stays bound its binding does not change, and neither does the profile it names. -/
def Obligations.BoundPortKeepsItsBindingAndProfile : Prop :=
  ∀ (i : Instr) (s t : State) (p : PortId), exec i s = .next t → (s.port p).bound = true → (t.port p).bound = true →
    (t.port p).binding = (s.port p).binding ∧
    ∀ b, (s.port p).binding = some b → t.profile b.profile = s.profile b.profile
end

