-- ==== Sys2Proof/Laws/Arbiter.lean ====
section
/-! SUPPORT. What a decision of a Channel Arbiter can do, said once: `notice_decided`; and that showing an answer may come
before or after it: `showResult_notice`. -/
namespace Sys2Proof.Laws

open Sys2Proof.Machine Sys2Proof.Safety

/-- `t` is `s` but for one channel and records appended to the completion queue. -/
structure OnChannel (s t : State) (ch : Chan) : Prop where
  pt : t.pt = s.pt
  ps : t.ps = s.ps
  att : t.att = s.att
  ev : t.ev = s.ev
  ie : t.ie = s.ie
  cu : t.cu = s.cu
  spi : t.spi = s.spi
  rstnLow : t.rstnLow = s.rstnLow
  stamp : t.stamp = s.stamp
  pending : t.pending = s.pending
  otherChannel : t.chan (other ch) = s.chan (other ch)
  outstanding : t.ht.outstanding = s.ht.outstanding
  view : t.ht.view = s.ht.view
  completions : ∃ l, t.ht.completions = s.ht.completions ++ l

theorem OnChannel.refl (s : State) (ch : Chan) : OnChannel s s ch :=
  ⟨rfl, rfl, rfl, rfl, rfl, rfl, rfl, rfl, rfl, rfl, rfl, rfl, rfl, [], by simp⟩

theorem OnChannel.trans {s t u : State} {ch : Chan} (a : OnChannel s t ch) (b : OnChannel t u ch) :
    OnChannel s u ch := by
  obtain ⟨l, hl⟩ := a.completions
  obtain ⟨m, hm⟩ := b.completions
  exact ⟨b.pt.trans a.pt, b.ps.trans a.ps, b.att.trans a.att, b.ev.trans a.ev, b.ie.trans a.ie, b.cu.trans a.cu,
    b.spi.trans a.spi, b.rstnLow.trans a.rstnLow, b.stamp.trans a.stamp, b.pending.trans a.pending,
    b.otherChannel.trans a.otherChannel, b.outstanding.trans a.outstanding, b.view.trans a.view, l ++ m, by rw [hm, hl, List.append_assoc]⟩

theorem OnChannel.modChan (s : State) (ch : Chan) (f : Channel → Channel) : OnChannel s (s.modChan ch f) ch := by
  cases ch <;> exact ⟨rfl, rfl, rfl, rfl, rfl, rfl, rfl, rfl, rfl, rfl, rfl, rfl, rfl, [],
    by simp [State.modChan, State.setChan]⟩

/-- R100, R133: the frame of a host unit's end. -/
theorem onChannel_endHost (s : State) (ch : Chan) (records : List Completion) :
    OnChannel s (s.endHost ch records) ch := by
  cases ch <;> exact ⟨rfl, rfl, rfl, rfl, rfl, rfl, rfl, rfl, rfl, rfl, rfl, rfl, rfl, records, rfl⟩

/-- R129, R130: the frame of a host unit that goes on. -/
theorem onChannel_hostProceed (s : State) (ch : Chan) (done : List Completion) (todo : List HostTxn) :
    OnChannel s (s.hostProceed ch done todo) ch := by
  induction todo generalizing done with
  | nil => exact onChannel_endHost s ch done
  | cons t rest ih =>
    unfold State.hostProceed
    split
    · exact ih _
    · exact OnChannel.modChan ..

/-- R98: the frame of a grant to the host side. -/
theorem onChannel_grantHost (s : State) (ch : Chan) : OnChannel s (s.grantHost ch) ch := by
  unfold State.grantHost
  split
  · exact OnChannel.refl ..
  · exact (OnChannel.modChan ..).trans (onChannel_hostProceed ..)

/-- R84: the frame of a grant to the device side. -/
theorem onChannel_grantDevice (s : State) (ch : Chan) (x : Source) : OnChannel s (s.grantDevice ch x) ch := by
  unfold State.grantDevice
  exact OnChannel.modChan s ch _

/-- R98: the frame of the turn rule. -/
theorem onChannel_turnRule (s : State) (ch : Chan) (x : Option Source) : OnChannel s (s.turnRule ch x).1 ch := by
  unfold State.turnRule
  dsimp only
  split
  · split
    · exact onChannel_grantHost ..
    · exact onChannel_grantDevice ..
  · split
    · exact onChannel_grantHost ..
    · exact OnChannel.refl ..

/-- R95: the frame of one decision. -/
theorem onChannel_decideOnce (s : State) (ch : Chan) : OnChannel s (s.decideOnce ch).1 ch :=
  (OnChannel.modChan ..).trans (onChannel_turnRule ..)

/-- R95: the frame of the decisions that one notice brings. -/
theorem onChannel_decideLoop (s : State) (ch : Chan) (fuel : Nat) : OnChannel s (s.decideLoop ch fuel) ch := by
  induction fuel generalizing s with
  | zero => exact OnChannel.refl ..
  | succ n ih =>
    unfold State.decideLoop
    split
    · dsimp only
      split
      · exact (onChannel_decideOnce ..).trans (ih _)
      · exact onChannel_decideOnce ..
    · exact OnChannel.refl ..

/-- R95: an arbiter that may not decide takes no decision. -/
theorem notice_of_busy {s : State} {ch : Chan} (h : s.mayDecide ch = false) : s.notice ch = s := by
  simp [State.notice, State.decideLoop, h]

/-- R95 to R100: everything a notice can do. -/
theorem notice_decided (s : State) (ch : Chan) : DecidedFrom s (s.notice ch) ch := by
  have h := onChannel_decideLoop s ch ((s.chan ch).hostQueue.length + 1)
  exact ⟨rfl, h.pt, h.ps, h.att, h.ev, h.ie, h.cu, h.spi, h.rstnLow, h.stamp, h.pending, h.otherChannel,
    h.outstanding, h.view,
    h.completions, notice_of_busy⟩

/-! ### Decisions read nothing of the Command Unit but a draining SOFT_RESET -/

/-- A state with its Command Unit replaced. -/
def withUnit (s : State) (c : CommandUnit) : State := { s with cu := c }

theorem modChan_withUnit (s : State) (c : CommandUnit) (ch : Chan) (f : Channel → Channel) :
    (withUnit s c).modChan ch f = withUnit (s.modChan ch f) c := by cases ch <;> rfl

theorem chan_withUnit (s : State) (c : CommandUnit) (ch : Chan) : (withUnit s c).chan ch = s.chan ch := by
  cases ch <;> rfl

theorem walkFrom_withUnit (s : State) (c : CommandUnit) (ch : Chan) (l : List PortId) (n : Nat) :
    (withUnit s c).walkFrom ch l n = s.walkFrom ch l n := by
  induction l generalizing n with
  | nil => rfl
  | cons p l ih => simp only [State.walkFrom, ih]; rfl

theorem consult_withUnit (s : State) (c : CommandUnit) (ch : Chan) : (withUnit s c).consult ch = s.consult ch := by
  have hw : ∀ d, (withUnit s c).walk ch d = s.walk ch d := by
    intro d; unfold State.walk; simp only [walkFrom_withUnit]
  have ha : ∀ d, (withUnit s c).consultAgain ch d = s.consultAgain ch d := by
    intro d; unfold State.consultAgain; simp only [hw]; rfl
  unfold State.consult
  simp only [chan_withUnit, hw, ha]
  rfl

theorem hostProceed_withUnit (s : State) (c : CommandUnit) (ch : Chan) (l : List HostTxn) (done : List Completion) :
    (withUnit s c).hostProceed ch done l = withUnit (s.hostProceed ch done l) c := by
  induction l generalizing done with
  | nil => cases ch <;> rfl
  | cons t rest ih =>
    have hj : (withUnit s c).judge t = s.judge t := rfl
    simp only [State.hostProceed, hj]
    cases s.judge t with
    | complete r => exact ih _
    | run m => exact modChan_withUnit ..

theorem turnRule_withUnit (s : State) (c : CommandUnit) (ch : Chan) (x : Option Source) :
    (withUnit s c).turnRule ch x = (withUnit (s.turnRule ch x).1 c, (s.turnRule ch x).2) := by
  have hd : ∀ x, (withUnit s c).grantDevice ch x = withUnit (s.grantDevice ch x) c := fun x => by cases ch <;> rfl
  have hh : (withUnit s c).grantHost ch = withUnit (s.grantHost ch) c := by
    unfold State.grantHost
    rw [chan_withUnit]
    cases (s.chan ch).hostQueue with
    | nil => rfl
    | cons u rest => simp only [modChan_withUnit, hostProceed_withUnit]
  unfold State.turnRule
  simp only [chan_withUnit, hd, hh]
  cases x <;> dsimp only <;> split <;> rfl

theorem decideLoop_withUnit (c : CommandUnit) (ch : Chan) (fuel : Nat) (s : State)
    (h : c.softResetting = s.cu.softResetting) :
    (withUnit s c).decideLoop ch fuel = withUnit (s.decideLoop ch fuel) c := by
  induction fuel generalizing s with
  | zero => rfl
  | succ n ih =>
    have hm : (withUnit s c).mayDecide ch = s.mayDecide ch := by
      simp only [State.mayDecide, chan_withUnit]
      rw [show (withUnit s c).cu = c from rfl, h]
    have ho : (withUnit s c).decideOnce ch = (withUnit (s.decideOnce ch).1 c, (s.decideOnce ch).2) := by
      simp only [State.decideOnce, State.modSched, consult_withUnit, modChan_withUnit, turnRule_withUnit]
    simp only [State.decideLoop, hm, ho]
    split
    · split
      · exact ih _ (by rw [h, (onChannel_decideOnce s ch).cu])
      · rfl
    · rfl

/-- R95, R187: a decision and a change of the Command Unit that keeps whether a SOFT_RESET drains may be taken in either
order. -/
theorem notice_withUnit (s : State) (c : CommandUnit) (ch : Chan) (h : c.softResetting = s.cu.softResetting) :
    (withUnit s c).notice ch = withUnit (s.notice ch) c := by
  unfold State.notice
  rw [chan_withUnit]
  exact decideLoop_withUnit c ch _ s h

/-- R95, R187: an answer shown after a decision is the decision after the answer is shown. -/
theorem showResult_notice (s : State) (ch : Chan) (source : BitVec 8) (a : Answer) :
    (s.notice ch).showResult source a = (s.showResult source a).notice ch := by
  have h := notice_withUnit s { s.cu with result := ⟨a.code, BitVec.ofNat 8 a.sub, source, a.item⟩ } ch rfl
  rw [show s.showResult source a = withUnit s { s.cu with result := ⟨a.code, BitVec.ofNat 8 a.sub, source, a.item⟩ }
    from rfl, h]
  unfold State.showResult
  rw [(notice_decided s ch).cu]
  rfl

end Sys2Proof.Laws
end

