-- ==== Sys2Proof/Laws/Commands.lean ====
section
/-! SUPPORT. What a row, a command and a checked write do before and after their owner takes them: one lemma each, so
that no later proof unfolds the Command Unit. -/
namespace Sys2Proof.Laws

open Sys2Proof.Machine Sys2Proof.Safety

/-- R183: the state a command is delivered in: the command register holds the word written. -/
def delivered (s : State) (hi code : BitVec 8) : State := { s with cu := { s.cu with command := hi ++ code } }

/-- With RSTN high a row is its meaning. -/
theorem live_of_running {s : State} {f : State → State} (h : s.rstnLow = false) : s.live f = .next (f s) := by
  simp [State.live, h]

/-- R176: with RSTN low a row changes nothing. -/
theorem live_of_reset {s : State} {f : State → State} (h : s.rstnLow = true) : s.live f = .next s := by
  simp [State.live, h]

/-- R183, R187: with no timed command in progress a command is delivered and its answer shown. -/
theorem command_ready {s : State} {hi code : BitVec 8} {d : Delivery} (h : Ready s) :
    s.command hi code d = (d (delivered s hi code)).1.showResult code (d (delivered s hi code)).2 := by
  obtain ⟨-, h⟩ := h
  simp only [State.command, h, delivered]
  rfl

/-- R185: with a timed command in progress a command is refused with BUSY and reaches no owner. -/
theorem command_busy {s : State} {hi code : BitVec 8} {d : Delivery} (h : s.cu.timed.isSome = true) :
    s.command hi code d = { s with cu := shown s.cu hi code .busy 0 none } := by
  simp only [State.command, h, if_true]
  rfl

/-- R186: with no timed command in progress a checked write reaches its owner and its answer is shown. -/
theorem checkedWrite_ready {s : State} {a : BitVec 7} {d : Delivery} (h : Ready s) :
    s.checkedWrite a d = (d s).1.showResult (0x80#8 ||| a.setWidth 8) (d s).2 := by
  obtain ⟨-, h⟩ := h
  simp [State.checkedWrite, h]

/-- R185: with a timed command in progress a checked write is refused with BUSY. -/
theorem checkedWrite_busy {s : State} {a : BitVec 7} {d : Delivery} (h : s.cu.timed.isSome = true) :
    s.checkedWrite a d = { s with cu := checkedShown s.cu a .busy } := by
  simp only [State.checkedWrite, h, if_true]
  rfl

/-- A refusal, or any answer that leaves the state delivered: only what the Command Unit shows changes. -/
theorem delivered_showResult (s : State) (hi code : BitVec 8) (r : ResultCode) (n : Nat) (i : Option Item) :
    (delivered s hi code).showResult code ⟨r, n, i⟩ = { s with cu := shown s.cu hi code r (BitVec.ofNat 8 n) i } := rfl

section
variable (s : State) (hi code : BitVec 8)

@[simp] theorem delivered_rstnLow : (delivered s hi code).rstnLow = s.rstnLow := rfl
@[simp] theorem delivered_pt : (delivered s hi code).pt = s.pt := rfl
@[simp] theorem delivered_ps : (delivered s hi code).ps = s.ps := rfl
@[simp] theorem delivered_ch0 : (delivered s hi code).ch0 = s.ch0 := rfl
@[simp] theorem delivered_ch1 : (delivered s hi code).ch1 = s.ch1 := rfl
@[simp] theorem delivered_chan (ch : Chan) : (delivered s hi code).chan ch = s.chan ch := by cases ch <;> rfl
@[simp] theorem delivered_att : (delivered s hi code).att = s.att := rfl
@[simp] theorem delivered_ht : (delivered s hi code).ht = s.ht := rfl
@[simp] theorem delivered_ev : (delivered s hi code).ev = s.ev := rfl
@[simp] theorem delivered_ie : (delivered s hi code).ie = s.ie := rfl
@[simp] theorem delivered_timed : (delivered s hi code).cu.timed = s.cu.timed := rfl
@[simp] theorem delivered_stamp : (delivered s hi code).stamp = s.stamp := rfl
@[simp] theorem delivered_pending : (delivered s hi code).pending = s.pending := rfl
@[simp] theorem delivered_port (p : PortId) : (delivered s hi code).port p = s.port p := rfl
@[simp] theorem delivered_profile (n : Fin 8) : (delivered s hi code).profile n = s.profile n := rfl
@[simp] theorem delivered_arg (n : Fin 6) : (delivered s hi code).arg n = s.arg n := rfl
@[simp] theorem delivered_argTarget : (delivered s hi code).argTarget = s.argTarget := rfl
@[simp] theorem delivered_argChannel : (delivered s hi code).argChannel = s.argChannel := rfl
@[simp] theorem delivered_argIndex : (delivered s hi code).argIndex = s.argIndex := rfl
@[simp] theorem delivered_argPattern : (delivered s hi code).argPattern = s.argPattern := rfl
@[simp] theorem delivered_argSlot : (delivered s hi code).argSlot = s.argSlot := rfl
@[simp] theorem delivered_argKind : (delivered s hi code).argKind = s.argKind := rfl
@[simp] theorem delivered_argMode : (delivered s hi code).argMode = s.argMode := rfl
@[simp] theorem delivered_argOn : (delivered s hi code).argOn = s.argOn := rfl
@[simp] theorem delivered_bindArgs : (delivered s hi code).bindArgs = s.bindArgs := rfl
@[simp] theorem delivered_rawArgs : (delivered s hi code).rawArgs = s.rawArgs := rfl
end

/-! ### Argument ranges -/

/-- A number below the bound is its own member. -/
@[simp] theorem finOf_val {n : Nat} (p : Fin n) : finOf n p.val = some p := by simp [finOf]

/-- A number at or above the bound is no member. -/
theorem finOf_eq_none {n k : Nat} (h : n ≤ k) : finOf n k = none := by simp [finOf]; omega

/-- The number of a channel names it. -/
@[simp] theorem chanOf_chanNumber (ch : Chan) : chanOf (chanNumber ch) = some ch := by cases ch <;> rfl

/-- R188: a number above 1 names no channel. -/
theorem chanOf_eq_none {k : Nat} (h : 1 < k) : chanOf k = none := by
  match k with
  | k + 2 => rfl

end Sys2Proof.Laws
end

