-- ==== Sys2Proof/Laws/State.lean ====
section
/-! SUPPORT. One lemma per field per update of the state, so that no later proof unfolds a record update. -/
namespace Sys2Proof.Machine

variable (s : State) (p q : PortId) (r : PortRec) (ch : Chan) (c : Channel)

/-! ### `setPort` -/

@[simp] theorem State.setPort_rstnLow : (s.setPort p r).rstnLow = s.rstnLow := rfl
@[simp] theorem State.setPort_ps : (s.setPort p r).ps = s.ps := rfl
@[simp] theorem State.setPort_ch0 : (s.setPort p r).ch0 = s.ch0 := rfl
@[simp] theorem State.setPort_ch1 : (s.setPort p r).ch1 = s.ch1 := rfl
@[simp] theorem State.setPort_att : (s.setPort p r).att = s.att := rfl
@[simp] theorem State.setPort_ht : (s.setPort p r).ht = s.ht := rfl
@[simp] theorem State.setPort_ev : (s.setPort p r).ev = s.ev := rfl
@[simp] theorem State.setPort_ie : (s.setPort p r).ie = s.ie := rfl
@[simp] theorem State.setPort_cu : (s.setPort p r).cu = s.cu := rfl
@[simp] theorem State.setPort_spi : (s.setPort p r).spi = s.spi := rfl
@[simp] theorem State.setPort_stamp : (s.setPort p r).stamp = s.stamp := rfl
@[simp] theorem State.setPort_pending : (s.setPort p r).pending = s.pending := rfl
@[simp] theorem State.setPort_missLimit : (s.setPort p r).pt.missLimit = s.pt.missLimit := rfl
@[simp] theorem State.setPort_attemptLimit : (s.setPort p r).pt.attemptLimit = s.pt.attemptLimit := rfl
@[simp] theorem State.setPort_retryInterval : (s.setPort p r).pt.retryInterval = s.pt.retryInterval := rfl
@[simp] theorem State.setPort_lostInterval : (s.setPort p r).pt.lostInterval = s.pt.lostInterval := rfl
@[simp] theorem State.setPort_view : (s.setPort p r).pt.view = s.pt.view := rfl

/-- The record written is the record read. -/
@[simp] theorem State.port_setPort_self : (s.setPort p r).port p = r := by simp [State.port, State.setPort]

/-- Every other record is as it was. -/
theorem State.port_setPort_of_ne (h : q ≠ p) : (s.setPort p r).port q = s.port q := by
  have : (p : Nat) ≠ q := fun e => h (Fin.ext e.symm)
  simp [State.port, State.setPort, Vector.getElem_set_ne, this]

/-- Reading any record after a record has been written. -/
theorem State.port_setPort : (s.setPort p r).port q = if q = p then r else s.port q := by
  by_cases h : q = p
  · subst h; simp
  · simp [h, State.port_setPort_of_ne]

/-- Writing one record twice is writing it once. -/
@[simp] theorem State.setPort_setPort (r' : PortRec) : (s.setPort p r).setPort p r' = s.setPort p r' := by
  simp [State.setPort]

/-- Writing a record back changes nothing. -/
@[simp] theorem State.setPort_port : s.setPort p (s.port p) = s := by
  simp [State.setPort, State.port]

/-! ### `modPort` -/

@[simp] theorem State.modPort_rstnLow (f : PortRec → PortRec) : (s.modPort p f).rstnLow = s.rstnLow := rfl
@[simp] theorem State.modPort_ps (f : PortRec → PortRec) : (s.modPort p f).ps = s.ps := rfl
@[simp] theorem State.modPort_ch0 (f : PortRec → PortRec) : (s.modPort p f).ch0 = s.ch0 := rfl
@[simp] theorem State.modPort_ch1 (f : PortRec → PortRec) : (s.modPort p f).ch1 = s.ch1 := rfl
@[simp] theorem State.modPort_att (f : PortRec → PortRec) : (s.modPort p f).att = s.att := rfl
@[simp] theorem State.modPort_ht (f : PortRec → PortRec) : (s.modPort p f).ht = s.ht := rfl
@[simp] theorem State.modPort_ev (f : PortRec → PortRec) : (s.modPort p f).ev = s.ev := rfl
@[simp] theorem State.modPort_ie (f : PortRec → PortRec) : (s.modPort p f).ie = s.ie := rfl
@[simp] theorem State.modPort_cu (f : PortRec → PortRec) : (s.modPort p f).cu = s.cu := rfl
@[simp] theorem State.modPort_spi (f : PortRec → PortRec) : (s.modPort p f).spi = s.spi := rfl
@[simp] theorem State.modPort_stamp (f : PortRec → PortRec) : (s.modPort p f).stamp = s.stamp := rfl
@[simp] theorem State.modPort_pending (f : PortRec → PortRec) : (s.modPort p f).pending = s.pending := rfl
@[simp] theorem State.port_modPort_self (f : PortRec → PortRec) : (s.modPort p f).port p = f (s.port p) :=
  State.port_setPort_self ..
theorem State.port_modPort_of_ne (f : PortRec → PortRec) (h : q ≠ p) : (s.modPort p f).port q = s.port q :=
  State.port_setPort_of_ne _ _ _ _ h

/-! ### `setChan` -/

@[simp] theorem State.setChan_rstnLow : (s.setChan ch c).rstnLow = s.rstnLow := by cases ch <;> rfl
@[simp] theorem State.setChan_pt : (s.setChan ch c).pt = s.pt := by cases ch <;> rfl
@[simp] theorem State.setChan_ps : (s.setChan ch c).ps = s.ps := by cases ch <;> rfl
@[simp] theorem State.setChan_att : (s.setChan ch c).att = s.att := by cases ch <;> rfl
@[simp] theorem State.setChan_ht : (s.setChan ch c).ht = s.ht := by cases ch <;> rfl
@[simp] theorem State.setChan_ev : (s.setChan ch c).ev = s.ev := by cases ch <;> rfl
@[simp] theorem State.setChan_ie : (s.setChan ch c).ie = s.ie := by cases ch <;> rfl
@[simp] theorem State.setChan_cu : (s.setChan ch c).cu = s.cu := by cases ch <;> rfl
@[simp] theorem State.setChan_spi : (s.setChan ch c).spi = s.spi := by cases ch <;> rfl
@[simp] theorem State.setChan_stamp : (s.setChan ch c).stamp = s.stamp := by cases ch <;> rfl
@[simp] theorem State.setChan_pending : (s.setChan ch c).pending = s.pending := by cases ch <;> rfl
@[simp] theorem State.port_setChan : (s.setChan ch c).port p = s.port p := by cases ch <;> rfl
@[simp] theorem State.profile_setChan (n : Fin 8) : (s.setChan ch c).profile n = s.profile n := by cases ch <;> rfl

/-- The channel written is the channel read. -/
@[simp] theorem State.chan_setChan_self : (s.setChan ch c).chan ch = c := by cases ch <;> rfl

/-- The other channel is as it was. -/
theorem State.chan_setChan_of_ne (ch' : Chan) (h : ch' ≠ ch) : (s.setChan ch c).chan ch' = s.chan ch' := by
  cases ch <;> cases ch' <;> first | rfl | exact absurd rfl h

/-- Writing one channel twice is writing it once. -/
@[simp] theorem State.setChan_setChan (c' : Channel) : (s.setChan ch c).setChan ch c' = s.setChan ch c' := by
  cases ch <;> rfl

/-- Writing a channel back changes nothing. -/
@[simp] theorem State.setChan_chan : s.setChan ch (s.chan ch) = s := by cases ch <;> rfl

/-! ### `modChan` and `modSched` -/

@[simp] theorem State.modChan_rstnLow (f : Channel → Channel) : (s.modChan ch f).rstnLow = s.rstnLow := by cases ch <;> rfl
@[simp] theorem State.modSched_rstnLow (f : Scheduler → Scheduler) : (s.modSched ch f).rstnLow = s.rstnLow := by cases ch <;> rfl
@[simp] theorem State.modChan_pt (f : Channel → Channel) : (s.modChan ch f).pt = s.pt := by cases ch <;> rfl
@[simp] theorem State.modSched_pt (f : Scheduler → Scheduler) : (s.modSched ch f).pt = s.pt := by cases ch <;> rfl
@[simp] theorem State.modChan_ps (f : Channel → Channel) : (s.modChan ch f).ps = s.ps := by cases ch <;> rfl
@[simp] theorem State.modSched_ps (f : Scheduler → Scheduler) : (s.modSched ch f).ps = s.ps := by cases ch <;> rfl
@[simp] theorem State.modChan_att (f : Channel → Channel) : (s.modChan ch f).att = s.att := by cases ch <;> rfl
@[simp] theorem State.modSched_att (f : Scheduler → Scheduler) : (s.modSched ch f).att = s.att := by cases ch <;> rfl
@[simp] theorem State.modChan_ht (f : Channel → Channel) : (s.modChan ch f).ht = s.ht := by cases ch <;> rfl
@[simp] theorem State.modSched_ht (f : Scheduler → Scheduler) : (s.modSched ch f).ht = s.ht := by cases ch <;> rfl
@[simp] theorem State.modChan_ev (f : Channel → Channel) : (s.modChan ch f).ev = s.ev := by cases ch <;> rfl
@[simp] theorem State.modSched_ev (f : Scheduler → Scheduler) : (s.modSched ch f).ev = s.ev := by cases ch <;> rfl
@[simp] theorem State.modChan_ie (f : Channel → Channel) : (s.modChan ch f).ie = s.ie := by cases ch <;> rfl
@[simp] theorem State.modSched_ie (f : Scheduler → Scheduler) : (s.modSched ch f).ie = s.ie := by cases ch <;> rfl
@[simp] theorem State.modChan_cu (f : Channel → Channel) : (s.modChan ch f).cu = s.cu := by cases ch <;> rfl
@[simp] theorem State.modSched_cu (f : Scheduler → Scheduler) : (s.modSched ch f).cu = s.cu := by cases ch <;> rfl
@[simp] theorem State.modChan_spi (f : Channel → Channel) : (s.modChan ch f).spi = s.spi := by cases ch <;> rfl
@[simp] theorem State.modSched_spi (f : Scheduler → Scheduler) : (s.modSched ch f).spi = s.spi := by cases ch <;> rfl
@[simp] theorem State.modChan_stamp (f : Channel → Channel) : (s.modChan ch f).stamp = s.stamp := by cases ch <;> rfl
@[simp] theorem State.modSched_stamp (f : Scheduler → Scheduler) : (s.modSched ch f).stamp = s.stamp := by cases ch <;> rfl
@[simp] theorem State.modChan_pending (f : Channel → Channel) : (s.modChan ch f).pending = s.pending := by cases ch <;> rfl
@[simp] theorem State.modSched_pending (f : Scheduler → Scheduler) : (s.modSched ch f).pending = s.pending := by cases ch <;> rfl
@[simp] theorem State.port_modChan (f : Channel → Channel) : (s.modChan ch f).port p = s.port p := by cases ch <;> rfl
@[simp] theorem State.port_modSched (f : Scheduler → Scheduler) : (s.modSched ch f).port p = s.port p := by
  cases ch <;> rfl
@[simp] theorem State.chan_modChan_self (f : Channel → Channel) : (s.modChan ch f).chan ch = f (s.chan ch) := by
  cases ch <;> rfl
@[simp] theorem State.chan_modSched_self (f : Scheduler → Scheduler) :
    (s.modSched ch f).chan ch = { s.chan ch with sched := f (s.chan ch).sched } := by cases ch <;> rfl
theorem State.chan_modChan_of_ne (f : Channel → Channel) (ch' : Chan) (h : ch' ≠ ch) :
    (s.modChan ch f).chan ch' = s.chan ch' := State.chan_setChan_of_ne _ _ _ _ h
theorem State.chan_modSched_of_ne (f : Scheduler → Scheduler) (ch' : Chan) (h : ch' ≠ ch) :
    (s.modSched ch f).chan ch' = s.chan ch' := State.chan_setChan_of_ne _ _ _ _ h

/-! ### Updates of other blocks, read through `port`, `chan` and `profile` -/

@[simp] theorem State.port_with_ps (x : ProfileStore) : State.port { s with ps := x } p = s.port p := rfl
@[simp] theorem State.chan_with_ps (x : ProfileStore) : State.chan { s with ps := x } ch = s.chan ch := by cases ch <;> rfl
@[simp] theorem State.port_with_att (x : Attention) : State.port { s with att := x } p = s.port p := rfl
@[simp] theorem State.chan_with_att (x : Attention) : State.chan { s with att := x } ch = s.chan ch := by cases ch <;> rfl
@[simp] theorem State.port_with_ht (x : HostTable) : State.port { s with ht := x } p = s.port p := rfl
@[simp] theorem State.chan_with_ht (x : HostTable) : State.chan { s with ht := x } ch = s.chan ch := by cases ch <;> rfl
@[simp] theorem State.port_with_ev (x : EventBlock) : State.port { s with ev := x } p = s.port p := rfl
@[simp] theorem State.chan_with_ev (x : EventBlock) : State.chan { s with ev := x } ch = s.chan ch := by cases ch <;> rfl
@[simp] theorem State.port_with_ie (x : IndicatorEngine) : State.port { s with ie := x } p = s.port p := rfl
@[simp] theorem State.chan_with_ie (x : IndicatorEngine) : State.chan { s with ie := x } ch = s.chan ch := by cases ch <;> rfl
@[simp] theorem State.port_with_cu (x : CommandUnit) : State.port { s with cu := x } p = s.port p := rfl
@[simp] theorem State.chan_with_cu (x : CommandUnit) : State.chan { s with cu := x } ch = s.chan ch := by cases ch <;> rfl
@[simp] theorem State.port_with_spi (x : SpiPort) : State.port { s with spi := x } p = s.port p := rfl
@[simp] theorem State.chan_with_spi (x : SpiPort) : State.chan { s with spi := x } ch = s.chan ch := by cases ch <;> rfl
@[simp] theorem State.port_with_stamp (x : Word) : State.port { s with stamp := x } p = s.port p := rfl
@[simp] theorem State.chan_with_stamp (x : Word) : State.chan { s with stamp := x } ch = s.chan ch := by cases ch <;> rfl
@[simp] theorem State.port_with_rstnLow (x : Bool) : State.port { s with rstnLow := x } p = s.port p := rfl
@[simp] theorem State.chan_with_rstnLow (x : Bool) : State.chan { s with rstnLow := x } ch = s.chan ch := by cases ch <;> rfl
@[simp] theorem State.port_with_pending (x : List Instr) : State.port { s with pending := x } p = s.port p := rfl
@[simp] theorem State.chan_with_pending (x : List Instr) : State.chan { s with pending := x } ch = s.chan ch := by cases ch <;> rfl
@[simp] theorem State.chan_with_pt (x : PortTable) : State.chan { s with pt := x } ch = s.chan ch := by cases ch <;> rfl

/-! ### `showResult`, `startTimed` -/

@[simp] theorem State.showResult_rstnLow (b : BitVec 8) (a : Answer) : (s.showResult b a).rstnLow = s.rstnLow := rfl
@[simp] theorem State.startTimed_rstnLow (b : BitVec 8) (x y : Bool) : (s.startTimed b x y).rstnLow = s.rstnLow := rfl
@[simp] theorem State.showResult_pt (b : BitVec 8) (a : Answer) : (s.showResult b a).pt = s.pt := rfl
@[simp] theorem State.startTimed_pt (b : BitVec 8) (x y : Bool) : (s.startTimed b x y).pt = s.pt := rfl
@[simp] theorem State.showResult_ps (b : BitVec 8) (a : Answer) : (s.showResult b a).ps = s.ps := rfl
@[simp] theorem State.startTimed_ps (b : BitVec 8) (x y : Bool) : (s.startTimed b x y).ps = s.ps := rfl
@[simp] theorem State.showResult_ch0 (b : BitVec 8) (a : Answer) : (s.showResult b a).ch0 = s.ch0 := rfl
@[simp] theorem State.startTimed_ch0 (b : BitVec 8) (x y : Bool) : (s.startTimed b x y).ch0 = s.ch0 := rfl
@[simp] theorem State.showResult_ch1 (b : BitVec 8) (a : Answer) : (s.showResult b a).ch1 = s.ch1 := rfl
@[simp] theorem State.startTimed_ch1 (b : BitVec 8) (x y : Bool) : (s.startTimed b x y).ch1 = s.ch1 := rfl
@[simp] theorem State.showResult_att (b : BitVec 8) (a : Answer) : (s.showResult b a).att = s.att := rfl
@[simp] theorem State.startTimed_att (b : BitVec 8) (x y : Bool) : (s.startTimed b x y).att = s.att := rfl
@[simp] theorem State.showResult_ht (b : BitVec 8) (a : Answer) : (s.showResult b a).ht = s.ht := rfl
@[simp] theorem State.startTimed_ht (b : BitVec 8) (x y : Bool) : (s.startTimed b x y).ht = s.ht := rfl
@[simp] theorem State.showResult_ev (b : BitVec 8) (a : Answer) : (s.showResult b a).ev = s.ev := rfl
@[simp] theorem State.startTimed_ev (b : BitVec 8) (x y : Bool) : (s.startTimed b x y).ev = s.ev := rfl
@[simp] theorem State.showResult_ie (b : BitVec 8) (a : Answer) : (s.showResult b a).ie = s.ie := rfl
@[simp] theorem State.startTimed_ie (b : BitVec 8) (x y : Bool) : (s.startTimed b x y).ie = s.ie := rfl
@[simp] theorem State.showResult_spi (b : BitVec 8) (a : Answer) : (s.showResult b a).spi = s.spi := rfl
@[simp] theorem State.startTimed_spi (b : BitVec 8) (x y : Bool) : (s.startTimed b x y).spi = s.spi := rfl
@[simp] theorem State.showResult_stamp (b : BitVec 8) (a : Answer) : (s.showResult b a).stamp = s.stamp := rfl
@[simp] theorem State.startTimed_stamp (b : BitVec 8) (x y : Bool) : (s.startTimed b x y).stamp = s.stamp := rfl
@[simp] theorem State.showResult_pending (b : BitVec 8) (a : Answer) : (s.showResult b a).pending = s.pending := rfl
@[simp] theorem State.startTimed_pending (b : BitVec 8) (x y : Bool) : (s.startTimed b x y).pending = s.pending := rfl

/-! ### `PerItem` -/

@[simp] theorem PerItem.get_set_self {α : Type} (v : PerItem α) (i : Item) (a : α) : (v.set i a).get i = a := by
  cases i <;> rfl
theorem PerItem.get_set_of_ne {α : Type} (v : PerItem α) (i j : Item) (a : α) (h : j ≠ i) :
    (v.set i a).get j = v.get j := by cases i <;> cases j <;> first | rfl | exact absurd rfl h
@[simp] theorem PerItem.get_const {α : Type} (a : α) (i : Item) : (PerItem.const a).get i = a := by cases i <;> rfl

/-- A per-item value is its eight entries. -/
theorem PerItem.ext_get {α : Type} {v w : PerItem α} (h : ∀ i, v.get i = w.get i) : v = w := by
  have h0 := h .link; have h1 := h .neg; have h2 := h .speed; have h3 := h .duplex
  have h4 := h .rfault; have h5 := h .partner; have h6 := h .energy; have h7 := h .count
  cases v; cases w; simp only [PerItem.get] at *; simp_all

/-! ### `mapVec` -/

@[simp] theorem getElem_mapVec {α β : Type} {n : Nat} (f : α → β) (v : Vector α n) (i : Nat) (h : i < n) :
    (mapVec f v)[i] = f v[i] := by simp [mapVec]

end Sys2Proof.Machine
end

