-- ==== Sys2Proof/Laws/Ports.lean ====
section
/-! SUPPORT. What posting an event, a lifecycle transition and the application of a fetch result can do, said once
each. -/
namespace Sys2Proof.Laws

open Sys2Proof.Machine Sys2Proof.Safety

/-! ### Posting -/

/-- R10, R141: posting an event of a port changes the event block and RESYNC of that port, nothing else. -/
theorem post_of_port (s : State) (b : EventBody) (p : PortId) (h : b.port? = some p) :
    s.post b =
      { s with
        ev := (s.ev.take b s.stamp).1
        pt := { s.pt with ports := s.pt.ports.set p (reported (s.port p) (s.ev.take b s.stamp).2) } } := by
  unfold State.post
  simp only [h]
  generalize s.ev.take b s.stamp = e
  obtain ⟨e, refused⟩ := e
  cases refused
  · simp only [reported, State.port, Bool.or_false]
    have : s.pt.ports.set p s.pt.ports[p] = s.pt.ports := by simp
    exact congrArg (fun v => { s with ev := e, pt := { s.pt with ports := v } }) this.symm
  · simp [reported, State.modPort, State.setPort, State.port]

/-- R141: posting an event of no port changes the event block alone. -/
theorem post_of_none (s : State) (b : EventBody) (h : b.port? = none) :
    s.post b = { s with ev := (s.ev.take b s.stamp).1 } := by
  simp [State.post, h]

/-! ### Transitions -/

/-- R12, R131: what a transition marks stale. -/
theorem markStale_eq (p : PortId) : HeldUnit.markStale p = staled p := by
  funext u
  cases u with
  | job j => by_cases h : j.port = p <;> simp [HeldUnit.markStale, staled, h]
  | host r =>
    cases h : r.current.txn.op <;> simp only [HeldUnit.markStale, staled, h]
    split <;> simp [*]

/-- R47 (c): what a port that leaves a state is removed from. -/
theorem leave_eq (c : Scheduler) (p : PortId) (old : PortState) : c.leave p old = withoutPort c p old := by
  cases old <;> simp [Scheduler.leave, withoutPort, Scheduler.dropUrgent, Scheduler.dropProbe]

theorem any_port (l : List (PortId × ProbeKind)) (p : PortId) :
    (l.any fun m => decide (m.1 = p)) = decide (p ∈ l.map Prod.fst) := by
  rw [Bool.eq_iff_iff]
  simp

/-- R82: a member at the tail. -/
theorem pushProbe_eq (c : Scheduler) (p : PortId) (k : ProbeKind) : c.pushProbe p k = withProbe c p k := by
  unfold Scheduler.pushProbe withProbe
  rw [any_port]
  by_cases h : p ∈ c.probes.map Prod.fst
  · simp only [h, decide_true, if_true]
  · simp [h]

/-- R59, R82: a member at the front. -/
theorem returnProbe_eq (c : Scheduler) (p : PortId) (k : ProbeKind) : c.returnProbe p k = withProbeFirst c p k := by
  unfold Scheduler.returnProbe withProbeFirst
  rw [any_port]
  by_cases h : p ∈ c.probes.map Prod.fst
  · simp only [h, decide_true, if_true]
  · simp [h]

/-- R47 (d): a port that enters PROBING is asked for at the tail of the probe queue. -/
theorem enter_eq (c : Scheduler) (p : PortId) (new : PortState) :
    c.enter p new = if new = .probing then withProbe c p .probe else c := by
  cases new <;> simp [Scheduler.enter, pushProbe_eq]

/-- R47 (d): a channel after a port with a record has entered a state. -/
def entering (c : Channel) (ch : Chan) (r : PortRec) (p : PortId) (new : PortState) : Channel :=
  { c with sched := if r.onChannel ch then c.sched.enter p new else c.sched }

/-- A claim on the scheduler of a binding's channel, as a claim on both channels. -/
theorem schedOf_eq (s : State) (b : Option Binding) (f : Scheduler → Scheduler) :
    s.schedOf b f =
      { s with
        ch0 := { s.ch0 with sched := if b.map Binding.channel = some .ch0 then f s.ch0.sched else s.ch0.sched }
        ch1 := { s.ch1 with sched := if b.map Binding.channel = some .ch1 then f s.ch1.sched else s.ch1.sched } } := by
  cases b with
  | none => simp [State.schedOf]
  | some b =>
    cases h : b.channel <;> simp [State.schedOf, State.modSched, State.modChan, State.setChan, State.chan, h]

/-- R47: everything a lifecycle transition does. -/
theorem transition_eq (s : State) (p : PortId) (new : PortState) (why : Option Reason) (effects : PortRec → PortRec) :
    s.transition p new why effects =
      let r := s.port p
      let after := { effects r with
        state := new, reason := why, probeRetry := none
        lostCheck := if new = .lost then some s.pt.lostInterval else none }
      let e := s.ev.take (.stateChange p r.state new why) s.stamp
      { s with
        ev := e.1
        pt := { s.pt with ports := s.pt.ports.set p (reported after e.2) }
        ch0 := entering (leaving s.ch0 .ch0 r p) .ch0 after p new
        ch1 := entering (leaving s.ch1 .ch1 r p) .ch1 after p new } := by
  unfold State.transition
  generalize hr : s.port p = r
  dsimp only
  rw [post_of_port _ _ p rfl]
  have on : ∀ (r : PortRec) (ch : Chan), (r.onChannel ch = true) = (r.binding.map Binding.channel = some ch) := by
    intro r ch
    unfold PortRec.onChannel
    cases r.binding <;> simp
  simp only [schedOf_eq, State.setPort, State.markStale, entering, leaving, on, State.port, markStale_eq, leave_eq]
  simp [reported]

/-- R47 (d): a port that enters a state other than PROBING is asked for nowhere. -/
theorem entering_of_ne (c : Channel) (ch : Chan) (r : PortRec) (p : PortId) (new : PortState) (h : new ≠ .probing) :
    entering c ch r p new = c := by
  simp [entering, enter_eq, h]

/-- R47 (b) to (d): a port that leaves its state for PROBING, on a channel. -/
theorem entering_leaving (c : Channel) (ch : Chan) (r r' : PortRec) (p : PortId) (h : r'.binding = r.binding) :
    entering (leaving c ch r p) ch r' p .probing = reprobing c ch r p := by
  have : r'.onChannel ch = r.onChannel ch := by unfold PortRec.onChannel; rw [h]
  unfold entering leaving reprobing
  rw [this]
  cases r.onChannel ch <;> simp [enter_eq]

/-! ### A clearing of the live mirror -/

/-- R141: events posted one list after another. -/
theorem posted_append (e : EventBlock) (stamp : Word) (l m : List EventBody) :
    posted e stamp (l ++ m) =
      ((posted (posted e stamp l).1 stamp m).1, (posted e stamp l).2 || (posted (posted e stamp l).1 stamp m).2) := by
  induction l generalizing e with
  | nil => simp [posted]
  | cons b l ih => simp [posted, ih, Bool.or_assoc]

/-- The part after the record of a port has become `r` and events of it have been posted in order. -/
def onRecord (s : State) (p : PortId) (r : PortRec) (l : List EventBody) : State :=
  { s with
    ev := (posted s.ev s.stamp l).1
    pt := { s.pt with ports := s.pt.ports.set p (reported r (posted s.ev s.stamp l).2) } }

theorem onRecord_nil (s : State) (p : PortId) : onRecord s p (s.port p) [] = s := by
  have h : s.pt.ports.set p (reported (s.port p) false) = s.pt.ports := by
    rw [reported, Bool.or_false]
    exact Vector.set_getElem_self ..
  simp only [onRecord, posted, h]

theorem onRecord_post (s : State) (p : PortId) (r : PortRec) (l : List EventBody) (b : EventBody)
    (h : b.port? = some p) : (onRecord s p r l).post b = onRecord s p r (l ++ [b]) := by
  rw [post_of_port _ _ p h]
  simp [onRecord, posted_append, posted, reported, State.port, Bool.or_assoc]

theorem port_onRecord (s : State) (p : PortId) (r : PortRec) (l : List EventBody) :
    (onRecord s p r l).port p = reported r (posted s.ev s.stamp l).2 := by
  simp [onRecord, State.port]

theorem onRecord_setPort (s : State) (p : PortId) (r r' : PortRec) (l : List EventBody) :
    (onRecord s p r l).setPort p (reported r' (posted s.ev s.stamp l).2) = onRecord s p r' l := by
  simp [onRecord, State.setPort]

/-- R14 to R16, R20: one item's value change, on a part whose record stands at `r`. -/
theorem onRecord_setItem (s : State) (p : PortId) (r : PortRec) (l : List EventBody) (i : Item)
    (new : Option ItemValue) (bad : Bool) (c : Cause) :
    (onRecord s p r l).setItem p i new bad c =
      let changes := r.mirror.get i ≠ new ∨ (bad = true ∧ r.sticky i = false ∧ (i = .link ∨ i = .rfault))
      let r' := { (if bad then r.setSticky i else r) with mirror := r.mirror.set i new }
      if changes then onRecord s p (r'.setChanged i) (l ++ [.itemChange p i (r.mirror.get i) new c])
      else onRecord s p r' l := by
  have m : ∀ b, ((reported r b).mirror = r.mirror) := fun _ => rfl
  have k : ∀ b, (reported r b).sticky i = r.sticky i := fun _ => by cases i <;> rfl
  have q : ∀ b, { (if bad then (reported r b).setSticky i else reported r b) with
        mirror := ((if bad then (reported r b).setSticky i else reported r b)).mirror.set i new } =
      reported { (if bad then r.setSticky i else r) with mirror := r.mirror.set i new } b := by
    intro b; cases bad <;> cases i <;> rfl
  unfold State.setItem
  rw [port_onRecord]
  simp only [m, k, q]
  by_cases h : r.mirror.get i ≠ new ∨ (bad = true ∧ r.sticky i = false ∧ (i = .link ∨ i = .rfault))
  · have h' : (decide (r.mirror.get i ≠ new) ||
        bad && !r.sticky i && (decide (i = .link) || decide (i = .rfault))) = true := by
      simpa [and_assoc] using h
    rw [if_pos h', if_pos h]
    rw [← onRecord_post s p _ l (.itemChange p i (r.mirror.get i) new c) rfl]
    exact congrArg (fun x => State.post x (.itemChange p i (r.mirror.get i) new c)) (onRecord_setPort s p r
      (PortRec.setChanged { (if bad then r.setSticky i else r) with mirror := r.mirror.set i new } i) l)
  · have h' : (decide (r.mirror.get i ≠ new) ||
        bad && !r.sticky i && (decide (i = .link) || decide (i = .rfault))) = false := by
      rw [← Bool.not_eq_true]; simpa [and_assoc] using h
    rw [h', if_neg h]
    exact onRecord_setPort ..

/-- R5: everything a clearing of the live mirror does. -/
theorem clearLive_eq (s : State) (p : PortId) :
    s.clearLive p = onRecord s p (cleared (s.port p)) (clearingEvents (s.port p) p) := by
  have keep : ∀ (v : PerItem Bool) (i : Item) (b : Bool),
      v.set i (v.get i || b) = if b = true then v.set i true else v := by
    intro v i b
    cases b <;> cases i <;> simp [PerItem.set, PerItem.get]
  have step : ∀ (r : PortRec) (l : List EventBody) (i : Item), i ≠ .link → i ≠ .count →
      State.clearItem p (onRecord s p r l) i = onRecord s p
        { r with
          mirror := r.mirror.set i none
          changed := r.changed.set i (r.changed.get i || (r.mirror.get i).isSome) }
        (l ++ if r.mirror.get i ≠ none then [.itemChange p i (r.mirror.get i) none .scan] else []) := by
    intro r l i h1 h2
    have e : State.clearItem p (onRecord s p r l) i = (onRecord s p r l).setItem p i none false .scan := by
      cases i <;> first | rfl | exact absurd rfl h1 | exact absurd rfl h2
    rw [e, onRecord_setItem, keep]
    cases h : r.mirror.get i <;> simp [PortRec.setChanged]
  have count : ∀ (r : PortRec) (l : List EventBody), State.clearItem p (onRecord s p r l) .count =
      onRecord s p { r with mirror := r.mirror.set .count none } l := by
    intro r l
    simp only [State.clearItem, State.modPort, port_onRecord]
    exact onRecord_setPort s p r { r with mirror := r.mirror.set .count none } l
  have link : ∀ (r : PortRec) (l : List EventBody), State.clearItem p (onRecord s p r l) .link = onRecord s p
      { r with
        mirror := r.mirror.set .link none
        stickyDown := true
        changed := r.changed.set .link (r.changed.get .link || (r.mirror.link.isSome || !r.stickyDown)) }
      (l ++ if r.mirror.link ≠ none ∨ r.stickyDown = false then
        [.itemChange p .link r.mirror.link none .scan] else []) := by
    intro r l
    rw [keep]
    simp only [State.clearItem, onRecord_setItem]
    cases h : r.mirror.link <;> cases h' : r.stickyDown <;>
      simp [PerItem.get, PortRec.sticky, PortRec.setSticky, PortRec.setChanged, h, h']
  conv => lhs; rw [← onRecord_nil s p]
  simp only [State.clearLive, Item.all, List.foldl_cons, List.foldl_nil, link, count,
    step _ _ .neg (by decide) (by decide), step _ _ .speed (by decide) (by decide),
    step _ _ .duplex (by decide) (by decide), step _ _ .rfault (by decide) (by decide),
    step _ _ .partner (by decide) (by decide), step _ _ .energy (by decide) (by decide)]
  congr 1
  · simp only [cleared, PerItem.get, PerItem.set, PerItem.const, Bool.or_assoc]
  · simp only [clearingEvents, List.flatMap_cons, List.flatMap_nil, List.nil_append, List.append_assoc, List.append_nil,
      PerItem.get, PerItem.set, reduceCtorEq, false_and, true_and, or_false]
    congr

/-- R47, R5: everything a lifecycle transition does on a part whose record stands at `r` with events posted before it. -/
theorem transition_onRecord (s : State) (p : PortId) (r : PortRec) (l : List EventBody) (new : PortState)
    (why : Option Reason) (eff : PortRec → PortRec) (hb : r.binding = (s.port p).binding) (hs : r.state = (s.port p).state)
    (he : ∀ r, (eff r).binding = r.binding)
    (hr : ∀ r b, eff (reported r b) = reported (eff r) b) :
    (onRecord s p r l).transition p new why eff =
      let after := { eff r with
        state := new, reason := why, probeRetry := none
        lostCheck := if new = .lost then some s.pt.lostInterval else none }
      let e := posted s.ev s.stamp (l ++ [.stateChange p (s.port p).state new why])
      { s with
        ev := e.1
        pt := { s.pt with ports := s.pt.ports.set p (reported after e.2) }
        ch0 := if new = .probing then reprobing s.ch0 .ch0 (s.port p) p else leaving s.ch0 .ch0 (s.port p) p
        ch1 := if new = .probing then reprobing s.ch1 .ch1 (s.port p) p else leaving s.ch1 .ch1 (s.port p) p } := by
  rw [transition_eq, port_onRecord]
  dsimp only
  simp only [hr]
  have hl : ∀ c ch b, leaving c ch (reported r b) p = leaving c ch (s.port p) p := by
    intro c ch b
    have on : (reported r b).onChannel ch = (s.port p).onChannel ch := by unfold PortRec.onChannel reported; rw [← hb]
    unfold leaving
    rw [on]
    simp only [reported, hs]
  by_cases h : new = .probing
  · subst h
    simp only [hl]
    rw [entering_leaving _ _ _ _ _ (by simp [reported, he, hb]),
      entering_leaving _ _ _ _ _ (by simp [reported, he, hb])]
    simp [posted_append, posted, onRecord, reported, hs, Bool.or_assoc]
  · simp only [hl, h]
    rw [entering_of_ne _ _ _ _ _ h, entering_of_ne _ _ _ _ _ h]
    simp [posted_append, posted, onRecord, reported, hs, Bool.or_assoc]

/-! ### Observations -/

/-- `t` is `s` but for the record of one port and the event block. -/
structure OnPort (s t : State) (p : PortId) : Prop where
  others : ∀ q, q ≠ p → t.port q = s.port q
  rest : t = { s with ev := t.ev, pt := { s.pt with ports := t.pt.ports } }

theorem OnPort.refl (s : State) (p : PortId) : OnPort s s p := ⟨fun _ _ => rfl, rfl⟩

theorem OnPort.trans {s t u : State} {p : PortId} (a : OnPort s t p) (b : OnPort t u p) : OnPort s u p :=
  ⟨fun q h => (b.others q h).trans (a.others q h), by rw [b.rest, a.rest]⟩

theorem OnPort.setPort (s : State) (p : PortId) (r : PortRec) : OnPort s (s.setPort p r) p :=
  ⟨fun _ h => State.port_setPort_of_ne _ _ _ _ h, rfl⟩

theorem OnPort.post (s : State) (b : EventBody) (p : PortId) (h : b.port? = some p) : OnPort s (s.post b) p := by
  rw [post_of_port _ _ _ h]
  exact ⟨fun _ h => State.port_setPort_of_ne _ _ _ _ h, rfl⟩

/-- R14 to R16: the frame of one item's value change. -/
theorem onPort_setItem (s : State) (p : PortId) (i : Item) (new : Option ItemValue) (bad : Bool) (c : Cause) :
    OnPort s (s.setItem p i new bad c) p := by
  unfold State.setItem
  dsimp only
  split
  · exact (OnPort.setPort ..).trans (OnPort.post _ _ _ rfl)
  · exact OnPort.setPort ..

/-- R17: the frame of an observation of COUNT. -/
theorem onPort_applyCount (s : State) (p : PortId) (first : Word) (second : Option Word) (c : Cause) :
    OnPort s (s.applyCount p first second c) p := by
  unfold State.applyCount
  dsimp only
  split
  · exact (OnPort.setPort ..).trans (OnPort.post _ _ _ rfl)
  · exact OnPort.setPort ..

/-- R18: the frame of PARTNER's fall with NEG. -/
theorem onPort_dropPartner (s : State) (p : PortId) (c : Cause) : OnPort s (s.dropPartner p c) p := by
  unfold State.dropPartner
  split
  · exact onPort_setItem ..
  · exact OnPort.refl ..

/-- R13: the frame of one item's turn. -/
theorem onPort_applyItem (s : State) (f : FetchResult) (i : Item) : OnPort s (s.applyItem f i) f.port := by
  cases i
  case count =>
    simp only [State.applyItem]
    split
    · exact onPort_applyCount ..
    · exact OnPort.refl ..
  case partner =>
    have first : OnPort s (if f.negFalse then s.dropPartner f.port f.cause else s) f.port := by
      split
      · exact onPort_dropPartner ..
      · exact OnPort.refl ..
    simp only [State.applyItem]
    revert first
    generalize (if f.negFalse then s.dropPartner f.port f.cause else s) = t
    intro first
    split
    · split
      · exact first.trans (onPort_setItem ..)
      · exact first
    · exact first
  all_goals
    simp only [State.applyItem]
    split
    · exact onPort_setItem ..
    · exact OnPort.refl ..

/-- R13: the frame of the turns of any items. -/
theorem onPort_applyItems (f : FetchResult) (l : List Item) (s : State) :
    OnPort s (l.foldl (State.applyItem f) s) f.port := by
  induction l generalizing s with
  | nil => exact OnPort.refl ..
  | cons i l ih => exact (onPort_applyItem s f i).trans (ih _)

/-- R11, R21: the frame of a fetch result: one port's record, the event block, and one flash machine. -/
theorem applyFetch_frame (s : State) (f : FetchResult) :
    (∀ q, q ≠ f.port → (s.applyFetch f).port q = s.port q) ∧
    s.applyFetch f =
      { s with
        ev := (s.applyFetch f).ev
        pt := { s.pt with ports := (s.applyFetch f).pt.ports }
        ie := if f.traffic then
            { s.ie with flash := s.ie.flash.set f.port (s.ie.flash[f.port].arrive s.ie.flashWidth) }
          else s.ie } := by
  have h := onPort_applyItems f Item.all s
  unfold State.applyFetch
  dsimp only
  revert h
  generalize Item.all.foldl (State.applyItem f) s = t
  intro h
  split
  · exact ⟨h.others, by simp only [State.activity]; rw [h.rest]⟩
  · exact ⟨h.others, h.rest⟩

end Sys2Proof.Laws
end

