-- ==== Sys2Proof/Tests/Slice0.lean ====
section
/-! SUPPORT. The model's own tests: the checks of WellFormed, one command per row on a small state with the values the
manual gives, and for every statement with hypotheses a state and operands that meet them all. -/
namespace Sys2Proof.Tests

open Sys2Proof.Machine Sys2Proof.Safety

set_option maxRecDepth 20000

/-! ### Small states -/

/-- The state after a command. -/
def after (i : Instr) (s : State) : State :=
  match exec i s with
  | .next t => t
  | _ => s

/-- A state with the six argument words given. -/
def withArgs (s : State) (w0 w1 w2 w3 w4 w5 : Word) : State :=
  { s with cu := { s.cu with args := #v[w0, w1, w2, w3, w4, w5] } }

/-- A staged recipe at DIRECT register `reg`. -/
def staged (reg : BusAddr) (low : BitVec 4) (width : Nat) (latch : LatchKind) (confirm : Bool) : StagedRecipe :=
  { loc := { StagedLoc.zero with reg := reg }
    present := true, low := low, width := width, polarity := .normal, latch := latch, confirm := confirm }

/-- LINK (LATCH_LOW, confirm), NEG and RFAULT (LATCH_HIGH) in DIRECT register 1, as in the worked example of §1.4;
PARTNER in register 5 and COUNT behind address 4007H, as in Figure 2-5; no identity recipe and no marker. -/
def stage : Staging :=
  { Staging.zero with
    recipes :=
      { PerItem.const StagedRecipe.zero with
        link := staged 1 2 1 .latchLow true
        neg := staged 1 5 1 .plain false
        rfault := staged 1 4 1 .latchHigh false
        partner := staged 5 0 16 .plain false
        count := { staged 14 0 16 .clearOnRead false with
          loc := { StagedLoc.zero with method := .indirect, reg := 14, second := 13, value := 0x4007#16 } } } }

/-- The profile of `stage`. -/
def prof : Profile := stage.install

/-- A binding of a PHY on channel 0 at device address 3 to profile 2. -/
def bnd : Binding := ⟨.ch0, 3, 2, none, false⟩

/-- The record of a port bound by `bnd` in a state. -/
def record (st : PortState) : PortRec :=
  { PortRec.reset with state := st, reason := some .host, binding := some bnd, stickyDown := true, bindings := 1 }

/-- A part with profile 2 installed, no port bound, and `stage` in the staging record. -/
def loaded : State :=
  { State.reset with ps := { State.reset.ps with profiles := State.reset.ps.profiles.set 2 (some prof), staging := stage } }

/-- A part whose port 5 is bound by `bnd` in a state. -/
def sup (st : PortState) : State := loaded.setPort 5 (record st)

/-- The worked example of §1.4: port 5 ACTIVE with LINK up, NEG true, RFAULT false, PARTNER 0DE1H, all flags clear. -/
def active : State :=
  loaded.setPort 5
    { record .active with
      stickyDown := false
      mirror :=
        { PerItem.const none with
          link := some (.flag true), neg := some (.flag true), rfault := some (.flag false)
          partner := some (.word 0x0DE1#16) } }

/-- Channel 0 of a state changed. -/
def onCh0 (s : State) (f : Channel → Channel) : State := s.modChan .ch0 f

/-- Channel 0 enabled and IDLE with no work. -/
def idle0 (s : State) : State := onCh0 s Channel.turnOn

/-- A RAW_READ on channel 0 of a register of a device with tag 7. -/
def rawRead (dev reg : BusAddr) : HostTxn := ⟨.ch0, 7, .rawRead dev reg⟩

/-- The host member of a RAW transaction at its turn. -/
def member (t : HostTxn) (dev reg : BusAddr) (data : Option Word) : HostMember :=
  { txn := t, device := dev, profile := none, access := .start (.direct reg) data, stale := false }

/-- Channel 0 BUSY with a RAW_READ of device 9, register 17; `rate` says whether its frame has started. -/
def hostBusy (rate : Option Nat) : State :=
  { onCh0 (idle0 State.reset) (fun c => { c.runHost ⟨[], member (rawRead 9 17) 9 17 none, []⟩ with
      frame := some ⟨⟨9, 17, .read⟩, true, rate⟩ }) with
    ht := { State.reset.ht with outstanding := 1 } }

/-- A job of a kind for port 5 at the first piece of its fetch plan. -/
def job (k : DeviceKind) (stale : Bool) : Job :=
  { kind := k, port := 5, binding := bnd, profile := prof, current := .fetch, access := .start (.direct 1) none
    todo := [], identHigh := none, stale := stale }

/-- Channel 0 with a job of port 5, its frame waiting (`none`) or started. -/
def jobBusy (st : PortState) (j : Job) (rate : Option Nat) : State :=
  onCh0 (idle0 (sup st)) fun c => { c.runJob j with frame := some ⟨⟨3, 1, .read⟩, true, rate⟩ }

/-- An item-change record of port 5's LINK, up to down, at stamp 1000 (Figure 8-4, record A). -/
def eventA : EventRec :=
  ⟨.itemChange 5 .link (some (.flag true)) (some (.flag false)) .scan, 1, 1000#16, 1000#16⟩

/-- The first row of Figure 8-4: one record, threshold 3, holdoff 20 ms, EVQ enabled. -/
def burst : State :=
  { State.reset with
    ev := { EventBlock.reset with
      queue := [eventA], threshold := 3, holdoff := 20, timer := .running 20, enables := ⟨true, false, false, false⟩ }
    stamp := 1004#16 }

/-- A part with a timed command of channel 0 in progress. -/
def timed : State := { State.reset with cu := { CommandUnit.reset with timed := some ⟨18, true, false⟩ } }

/-! ### WellFormed -/

theorem test_unknown_command_code_20_is_ill_formed : (Instr.unknownCommand 0 20).wellFormed = false := by decide
theorem test_unknown_command_code_21_is_well_formed : (Instr.unknownCommand 0 21).wellFormed = true := by decide
theorem test_register_write_of_checked_register_is_ill_formed : (Instr.registerWrite 0x18 0).wellFormed = false := by
  decide
theorem test_register_write_of_argument_word_is_well_formed : (Instr.registerWrite 0x0C 0).wellFormed = true := by decide

/-! ### The window and the command register -/

/-- R178: 2410H and 0001H. -/
theorem test_identification : State.reset.readWord 0x00 = 0x2410#16 ∧ State.reset.readWord 0x01 = 0x0001#16 := by decide

/-- R188, Figure 10-8: DONE 1, source 0. -/
theorem test_nop : (after (.nop 0xAB) State.reset).readWord 0x13 = 0x0001#16 ∧
    (after (.nop 0xAB) State.reset).readWord 0x12 = 0xAB00#16 := by decide

/-- R183: BAD_ARG 4 with sub-code 14 in bits 11 to 4; source 21. -/
theorem test_unknown_command : (after (.unknownCommand 0 21) State.reset).readWord 0x13 = 0x00E4#16 ∧
    (after (.unknownCommand 0 21) State.reset).readWord 0x14 = 0x0015#16 := by decide

/-- R185: BUSY 3, NOP included. -/
theorem test_busy : (after (.nop 0) timed).readWord 0x13 = 0x0003#16 := by decide

/-- R182: an argument word reads back. -/
theorem test_register_write : (after (.registerWrite 0x11 0xBEEF) State.reset).readWord 0x11 = 0xBEEF#16 := by decide

/-- R175: a write of an undefined address is ignored. -/
theorem test_register_write_undefined : after (.registerWrite 0x7F 0xBEEF) State.reset = State.reset := by decide

/-- Figure 10-1: 9BH is a read command byte of address 1BH; 1BH writes it. -/
theorem test_spi_command_byte :
    spiCommand [true, false, false, true, true, false, true, true] = some (true, 0x1B#7) := by decide

/-- §10.2: a partial word is discarded. -/
theorem test_spi_partial_word : spiWrites (List.replicate 8 false ++ List.replicate 31 true) = [(0#7, 0xFFFF#16)] := by
  decide

/-! ### Port commands -/

/-- §3.7, first row of the worked example: port 9 to channel 1, device address 4, profile 2. -/
def bindArgs9 : State := withArgs loaded 0x0109 0x0204 0x1234 0x5670 0 0x0600

theorem test_bind : ((after (.bind 0) bindArgs9).port 9).state = .probing ∧
    (after (.bind 0) bindArgs9).ch1.sched.probes = [(9, .probe)] ∧
    (after (.bind 0) bindArgs9).ev.queue.map EventRec.body = [.stateChange 9 .unbound .probing (some .host)] := by decide

/-- Figure 10-4: 22H of that port: present, channel 1, device 4, profile 2, expected identity present, ignore-revision. -/
theorem test_bind_view : (after (.snapshot 0) (after (.bind 0) bindArgs9)).readWord 0x22 = 0x0D13#16 := by decide

theorem test_unbind : ((after (.unbind 0) (withArgs active 5 0 0 0 0 0)).port 5).state = .unbound ∧
    ((after (.unbind 0) (withArgs active 5 0 0 0 0 0)).port 5).mirror = .const none := by decide

/-- R50: the mirror stays frozen. -/
theorem test_suspend : ((after (.suspend 0) (withArgs active 5 0 0 0 0 0)).port 5).state = .suspended ∧
    ((after (.suspend 0) (withArgs active 5 0 0 0 0 0)).port 5).mirror.partner = some (.word 0x0DE1#16) := by decide

theorem test_resume : ((after (.resume 0) (withArgs (sup .suspended) 5 0 0 0 0 0)).port 5).reason = some .resumed ∧
    (after (.resume 0) (withArgs (sup .suspended) 5 0 0 0 0 0)).ch0.sched.probes = [(5, .probe)] := by decide

theorem test_retry : ((after (.retry 0) (withArgs (sup .failed) 5 0 0 0 0 0)).port 5).reason = some .retry ∧
    (after (.retry 0) (withArgs (sup .failed) 5 0 0 0 0 0)).ch0.sched.probes = [(5, .probe)] := by decide

/-- R22: ACK of LINK clears sticky-down only while LINK is up. -/
theorem test_ack : ((after (.ack 0) (withArgs (sup .active) 5 0 0 0 0 1)).port 5).stickyDown = true ∧
    ((after (.ack 0) (withArgs (active.modPort 5 fun r => { r with stickyDown := true }) 5 0 0 0 0 1)).port 5).stickyDown
      = false := by decide

/-- Figure 10-4: 20H: port 5, ACTIVE 2, HOST 1, view valid; 29H: LINK, NEG, RFAULT, PARTNER present. -/
theorem test_snapshot : (after (.snapshot 0) (withArgs active 5 0 0 0 0 0)).readWord 0x20 = 0x8145#16 ∧
    (after (.snapshot 0) (withArgs active 5 0 0 0 0 0)).readWord 0x29 = 0x0033#16 := by decide

/-! ### Observations and outcomes -/

/-- The fetch of the worked example of §1.4: first read LINK down, NEG true, RFAULT true; confirm read up, true, false. -/
def flap : FetchResult := ⟨5, prof, .direct 1, .scan, 0x0030#16, some 0x0024#16⟩

/-- §1.4: both sticky flags and both changed flags are set, the values stay, and two events are posted. -/
theorem test_worked_fetch : ((active.applyFetch flap).port 5).mirror = (active.port 5).mirror ∧
    ((active.applyFetch flap).port 5).stickyDown = true ∧ ((active.applyFetch flap).port 5).stickyFault = true ∧
    (active.applyFetch flap).ev.queue.map EventRec.body =
      [.itemChange 5 .link (some (.flag true)) (some (.flag true)) .scan,
        .itemChange 5 .rfault (some (.flag false)) (some (.flag false)) .scan] := by decide

/-- R18: NEG read false makes PARTNER absent in the same claim. -/
theorem test_neg_false_drops_partner :
    ((active.applyFetch ⟨5, prof, .direct 1, .scan, 0x0004#16, none⟩).port 5).mirror.partner = none := by decide

/-- §3.7: the third miss takes the port to LOST with the lost-check timer at 1000 ms. -/
theorem test_third_miss_is_lost :
    (((active.modPort 5 fun r => { r with missCount := 2 }).scanOutcome 5 .noAnswer).port 5).state = .lost ∧
    (((active.modPort 5 fun r => { r with missCount := 2 }).scanOutcome 5 .noAnswer).port 5).lostCheck = some 1000 := by
  decide

/-- R57: the first failed attempt starts the probe-retry timer of 50 ms. -/
theorem test_first_failed_attempt : (((sup .probing).probeOutcome 5 .noAnswer).port 5).attemptCount = 1 ∧
    (((sup .probing).probeOutcome 5 .noAnswer).port 5).probeRetry = some 50 := by decide

/-- R58: the expiry places the port on the probe queue of its channel. -/
def retryDue : State := (sup .probing).modPort 5 fun r => { r with probeRetry := some 0 }
theorem test_probe_retry_expiry : (after (.probeRetryExpiry 5) retryDue).ch0.sched.probes = [(5, .probe)] := by decide

/-- R62: the expiry asks for a presence check. -/
def lostDue : State := (sup .lost).modPort 5 fun r => { r with lostCheck := some 0 }
theorem test_lost_check_expiry : (after (.lostCheckExpiry 5) lostDue).ch0.sched.probes = [(5, .presence)] := by decide

/-- R66: a miss limit below a port's count is refused with BAD_STATE (5). -/
theorem test_write_miss_limit :
    (after (.writeMissLimit 1) (active.modPort 5 fun r => { r with missCount := 2 })).readWord 0x13 = 0x0005#16 ∧
    (after (.writeMissLimit 15) active).readWord 0x18 = 15#16 := by decide

/-- R191: 16 is above 15. -/
theorem test_write_probe_attempt_limit : (after (.writeProbeAttemptLimit 16) active).readWord 0x13 = 0x0004#16 ∧
    (after (.writeProbeAttemptLimit 1) active).readWord 0x19 = 1#16 := by decide

theorem test_write_probe_retry_interval : (after (.writeProbeRetryInterval 0) active).readWord 0x1A = 50#16 ∧
    (after (.writeProbeRetryInterval 65535) active).readWord 0x1A = 65535#16 := by decide

theorem test_write_lost_check_interval : (after (.writeLostCheckInterval 0) active).readWord 0x1B = 1000#16 ∧
    (after (.writeLostCheckInterval 1) active).readWord 0x1B = 1#16 := by decide

/-! ### Profiles -/

/-- §2.4, the refused load: LINK and PARTNER in register 6, RFAULT PLAIN with confirm, marker on register 6. -/
def badStage : Staging :=
  { Staging.zero with
    recipes :=
      { PerItem.const StagedRecipe.zero with
        link := staged 6 15 1 .latchLow true, neg := staged 1 5 1 .plain false, rfault := staged 1 4 1 .plain true
        partner := staged 6 0 15 .plain false
        count := { staged 14 0 16 .clearOnRead false with
          loc := { StagedLoc.zero with method := .indirect, reg := 14, second := 13, value := 0x12#16 } } }
    markerPresent := true
    marker := ⟨{ StagedLoc.zero with reg := 6 }, 0⟩ }

/-- §2.4: BAD_ARG, sub-code 6, item RFAULT (4): 13H is 0064H, 14H is source 10 with item 4 named. -/
theorem test_profile_load_refused :
    (after (.profileLoad 0) (withArgs { loaded with ps := { loaded.ps with staging := badStage } } 3 0 0 0 0 0)).readWord
      0x13 = 0x0064#16 ∧
    (after (.profileLoad 0) (withArgs { loaded with ps := { loaded.ps with staging := badStage } } 3 0 0 0 0 0)).readWord
      0x14 = 0x140A#16 := by decide

/-- R27, Figure 10-3: 04H shows profile 3 with profile 2 already installed. -/
theorem test_profile_load : (after (.profileLoad 0) (withArgs loaded 3 0 0 0 0 0)).readWord 0x04 = 0x0C00#16 := by decide

/-- Figure 2-5: the plan of shared locations. -/
theorem test_fetch_plan : prof.plan.map (fun e => (e.loc, e.items, e.confirmCapable)) =
    [(.direct 1, [.link, .neg, .rfault], true), (.direct 5, [.partner], false),
      (.indirect 13 0x4007#16 14, [.count], false)] := by decide

theorem test_write_staging_index : (after (.writeStagingIndex 17) State.reset).readWord 0x40 = 17#16 ∧
    (after (.writeStagingIndex 18) State.reset).readWord 0x40 = 0#16 := by decide

/-- R181: a width of 17 leaves the width and stores the other fields. -/
theorem test_write_staging_part : (after (.writeStagingPart 3 0x2231) State.reset).readWord 0x44 = 0x2011#16 ∧
    (after (.writeStagingPart 1 0x4007) State.reset).readWord 0x42 = 0x4007#16 := by decide

/-! ### Scan lists, attention and the Timebase -/

theorem test_set_scan_entry :
    (after (.setScanEntry 0) (withArgs State.reset 0x0117 0 0 31 0 0)).ch1.sched.scanList[31] = 23 := by decide

theorem test_set_scan_length : (after (.setScanLength 0) (withArgs State.reset 0x0100 0 0 32 0 0)).ch1.sched.scanLength
    = 32 ∧ (after (.setScanLength 0) (withArgs State.reset 0 0 0 33 0 0)).readWord 0x13 = 0x0004#16 := by decide

/-- The pass-interval timer of channel 0 due, with a scan list of length 1. -/
def passDue : State :=
  onCh0 (idle0 active) fun c => { c with sched := { c.sched with scanLength := 1, passTimer := .running 0 } }

/-- R73: the pass starts and the timer is started again. Port 0, the list's entry, is UNBOUND: the walk ends at once. -/
theorem test_pass_interval_expiry :
    (after (.passIntervalExpiry .ch0) passDue).ch0.sched.passTimer = .running 100 ∧
    (after (.passIntervalExpiry .ch0) passDue).ch0.sched.pass = none := by decide

/-- R80, Figure 10-3: a low ATN2 is active and adds ACTIVE port 5 of its set; 07H shows bit 2. -/
def attended : State := { active with att := { active.att with sets := active.att.sets.set 2 (0x000020#24) } }
theorem test_timebase_tick : (after (.timebaseTick 0xB) attended).ch0.sched.urgent = [5] ∧
    (after (.timebaseTick 0xB) attended).readWord 0x07 = 4#16 ∧ (after (.timebaseTick 0xF) attended).stamp = 1 := by
  decide

/-- R178: a low word alone changes no set; the high word's bits 15 to 8 are ignored. -/
theorem test_write_attention_low : (after (.writeAttentionLow 1 0x1234) State.reset).readWord 0x4A = 0#16 := by decide
theorem test_write_attention_high :
    (after (.writeAttentionHigh 1 0xFF56) (after (.writeAttentionLow 1 0x1234) State.reset)).readWord 0x4A = 0x1234#16 ∧
    (after (.writeAttentionHigh 1 0xFF56) (after (.writeAttentionLow 1 0x1234) State.reset)).readWord 0x4B = 0x0056#16 := by
  decide

/-! ### Channels -/

theorem test_write_divider : (after (.writeDivider .ch1 63) State.reset).readWord 0x58 = 63#16 ∧
    (after (.writeDivider .ch1 2) State.reset).readWord 0x13 = 0x0004#16 := by decide
theorem test_write_pass_interval : (after (.writePassInterval .ch0 65535) State.reset).readWord 0x51 = 65535#16 := by
  decide
theorem test_write_host_weight : (after (.writeHostWeight .ch1 4) State.reset).readWord 0x5A = 4#16 ∧
    (after (.writeHostWeight .ch1 5) State.reset).readWord 0x5A = 1#16 := by decide
theorem test_write_channel_status :
    (after (.writeChannelStatus .ch0 0x10) (onCh0 State.reset fun c =>
      { c with sched := { c.sched with overrun := true } })).ch0.sched.overrun = false := by decide

/-- R77, R115: IDLE 1 with the enable setting, and the timer at 100 ms. -/
theorem test_channel_enable_on :
    (after (.channelEnableOn 0) (withArgs State.reset 0 0 0 0 0 0x0800)).ch0.sched.passTimer = .running 100 ∧
    (after (.channelEnableOn 0) (withArgs State.reset 0 0 0 0 0 0x0800)).readWord 0x53 = 0x2009#16 := by decide

/-- R184: a disable with a grant standing is timed: IN_PROGRESS 2, and code 17 with bit 0 in 02H. -/
theorem test_channel_enable_off : (after (.channelEnableOff 0) (withArgs (hostBusy none) 0 0 0 0 0 0)).readWord 0x13 =
    0x0002#16 ∧ (after (.channelEnableOff 0) (withArgs (hostBusy none) 0 0 0 0 0 0)).readWord 0x02 = 0x0023#16 := by
  decide

/-- R117: a frame not started is withdrawn and its unit completes ABORTED at once. -/
theorem test_channel_abort :
    (after (.channelAbort 0) (withArgs (hostBusy none) 0 0 0 0 0 0)).ht.completions = [⟨rawRead 9 17, .aborted, none⟩] := by
  decide

/-- R119: FAULT 10 with the line low; DONE and IDLE with it high. -/
def halted : State := onCh0 State.reset fun c =>
  { c with state := .halted, enabled := true, sched := c.sched.startTimer, established := 2 }
theorem test_channel_restart : (after (.channelRestart 0 false) halted).readWord 0x13 = 0x000A#16 ∧
    (after (.channelRestart 0 true) halted).ch0.state = .idle ∧
    (after (.channelRestart 0 true) halted).ch0.established = 0 := by decide

/-- R190: every port UNBOUND, profiles kept, DONE with source 20. -/
theorem test_soft_reset : ((after (.softReset 0) active).port 5).state = .unbound ∧
    (after (.softReset 0) active).ps = active.ps ∧ (after (.softReset 0) active).readWord 0x14 = 0x0014#16 := by decide

/-- R109: the frame starts at the divider in force. -/
theorem test_idle_line_check_high :
    (after (.idleLineCheck .ch0 true) (hostBusy none)).ch0.frame = some ⟨⟨9, 17, .read⟩, true, some 7⟩ := by decide

/-- R110, R120: the channel halts, the member completes BUS_FAULT, one CHANNEL_FAULT record, CHF set. -/
theorem test_idle_line_check_low : (after (.idleLineCheck .ch0 false) (hostBusy none)).ch0.state = .halted ∧
    (after (.idleLineCheck .ch0 false) (hostBusy none)).ht.completions = [⟨rawRead 9 17, .busFault, none⟩] ∧
    (after (.idleLineCheck .ch0 false) (hostBusy none)).readWord 0x08 = 0x000B#16 := by decide

/-- R111, R114, R132: an answered read completes OK and adds its address; 38H shows tag 7, OK, data present, valid. -/
theorem test_frame_end : (after (.takeCompletion 0) (after (.frameEnd .ch0 false 0xCAFE) (hostBusy (some 7)))).readWord
    0x38 = 0xC007#16 ∧
    (after (.frameEnd .ch0 false 0xCAFE) (hostBusy (some 7))).ch0.established = 0x00000200#32 := by decide

/-- Figure 6-4: a write of 8001H to register 2 of device 1, without preamble. -/
theorem test_write_frame_on_the_wire :
    ((Frame.mk 1 2 (.write 0x8001)).wire false).take 16 =
      [.zero, .one, .zero, .one, .zero, .zero, .zero, .zero, .one, .zero, .zero, .zero, .one, .zero, .one, .zero] := by
  decide

/-- Figure 6-5: d = 7 with preamble: 32 µs of 32 cycles each. -/
theorem test_frame_duration : frameCycles ⟨1, 2, .read⟩ true 7 = 32 * 32 := by decide

/-! ### Host transactions -/

/-- R125, Figure 10-7: RAW_READ of device 3, register 1, tag 22 on channel 0 (Figure 7-2). -/
def postArgs (s : State) : State := withArgs s 0 0x0103 0 0 0x0016 0
theorem test_post_raw_read :
    (after (.postRawRead 0) (postArgs State.reset)).ch0.hostQueue = [[⟨.ch0, 22, .rawRead 3 1⟩]] := by decide

/-- Figure 7-2: the POST at an outstanding count of 16 is refused with FULL (8). -/
theorem test_post_full : (after (.postRawRead 0)
    (postArgs { State.reset with ht := { State.reset.ht with outstanding := 16 } })).readWord 0x13 = 0x0008#16 := by decide

/-- Figure 7-2: tag 20 with continue opens a chain on channel 1. -/
theorem test_post_raw_write :
    (after (.postRawWrite 0) (withArgs State.reset 0x0100 0x1609 0x0002 0 0x0514 0)).readWord 0x03 = 0x4201#16 := by decide

/-- §11.3: ITEM_READ of COUNT (item 7), tag 40. -/
theorem test_post_item_read : (after (.postItemRead 0) (withArgs active 5 0 0 0 0x7228 0)).ch0.hostQueue =
    [[⟨.ch0, 40, .itemRead 5 .count 1⟩]] := by decide

/-- R134: an empty completion queue is refused with EMPTY (9). -/
theorem test_take_completion_empty : (after (.takeCompletion 0) State.reset).readWord 0x13 = 0x0009#16 := by decide

/-! ### Events and interrupts (Figure 8-4) -/

/-- Stamp 1004: the event folds into A: up to up, repeat 2, 1000/1004; EVQ stays false. -/
theorem test_fold : (burst.post (.itemChange 5 .link (some (.flag false)) (some (.flag true)) .scan)).ev.queue =
    [⟨.itemChange 5 .link (some (.flag true)) (some (.flag true)) .scan, 2, 1000#16, 1004#16⟩] := by decide

/-- Stamp 1020: the expiry makes EVQ true and IRQN low. -/
def burstDue : State := { burst with ev := { burst.ev with timer := .running 0 } }
theorem test_holdoff_expiry : burstDue.irqn = true ∧ (after .holdoffExpiry burstDue).irqn = false := by decide

/-- Figure 10-5: 30H of A: port 5, LINK, ITEM_CHANGE, valid; 33H: both present, SCAN 1, repeat 1; IRQN high again. -/
theorem test_pop_event : (after (.popEvent 0) burst).readWord 0x30 = 0x8005#16 ∧
    (after (.popEvent 0) burst).readWord 0x33 = 0x0107#16 ∧ (after (.popEvent 0) burst).ev.timer = .stopped := by decide

theorem test_write_event_threshold : (after (.writeEventThreshold 1) burst).irqn = false ∧
    (after (.writeEventThreshold 65) burst).readWord 0x0A = 3#16 := by decide
theorem test_write_holdoff : (after (.writeHoldoff 0) burst).ev.timer = .running 20 ∧
    (after (.writeHoldoff 0) burst).readWord 0x0B = 0#16 := by decide
theorem test_write_interrupt_causes :
    (after (.writeInterruptCauses 0x000F) { burst with ev := { burst.ev with ovf := true, chf := true } }).readWord 0x08 =
      0#16 := by decide
theorem test_write_interrupt_enables : (after (.writeInterruptEnables 0xFFF5) burst).readWord 0x09 = 0x0005#16 := by
  decide

/-! ### Indicators -/

theorem test_write_indicator_index : (after (.writeIndicatorIndex 47) State.reset).readWord 0x60 = 47#16 ∧
    (after (.writeIndicatorIndex 48) State.reset).readWord 0x60 = 0#16 := by decide

/-- Figure 10-6: LINK_UP, port 5, active level LOW; port 24 refuses the whole word. -/
theorem test_write_indicator_record : (after (.writeIndicatorRecord 0 0x0252) State.reset).readWord 0x61 = 0x0252#16 ∧
    (after (.writeIndicatorRecord 0 0x0382) State.reset).readWord 0x61 = 0#16 := by decide

theorem test_write_chain_length : (after (.writeChainLength 48) State.reset).readWord 0x66 = 48#16 ∧
    (after (.writeChainLength 12) State.reset).readWord 0x66 = 8#16 := by decide
theorem test_write_flash_width : (after (.writeFlashWidth 25) State.reset).readWord 0x67 = 25#16 ∧
    (after (.writeFlashWidth 26) State.reset).readWord 0x67 = 5#16 := by decide

/-- R167: BLINK_A of slot 2 for 3 seconds on indicator 0: 64H shows it, 65H 3 seconds. -/
theorem test_override : (after (.override 0) (withArgs State.reset 0 0 3 0x0022 0 0)).readWord 0x64 = 0x0065#16 ∧
    (after (.override 0) (withArgs State.reset 0 0 3 0x0022 0 0)).readWord 0x65 = 3#16 := by decide

/-- R168: EMPTY (9) without an override. -/
theorem test_cancel_override : (after (.cancelOverride 0) State.reset).readWord 0x13 = 0x0009#16 := by decide

/-- A state whose indicator 0 has an override due to expire. -/
def overrideDue : State :=
  { State.reset with ie := State.reset.ie.modRecord 0 fun r => { r with override := some ⟨⟨.on, 0⟩, some 0⟩ } }
theorem test_override_expiry : (after (.overrideExpiry 0) overrideDue).readWord 0x64 = 0#16 := by decide

/-- Figure 9-5, times 300 and 950: slot 1 with pending 20 steps, and restarted at 10 steps. -/
theorem test_set_rate_deferred :
    (after (.setRateDeferred 0) (withArgs State.reset 1 0 20 0 0 0)).readWord 0x6B = 0x8014#16 := by decide
theorem test_set_rate_immediate :
    (after (.setRateImmediate 0) (withArgs State.reset 1 0 10 0 0 0x1000)).ie.slots[1] = ⟨10, none, true, 100⟩ := by decide

/-- Figure 9-5, time 500: the expiry applies the pending 30 steps, phase OFF, next toggle 300 ms on. -/
def rateDue : State := { State.reset with ie := State.reset.ie.modSlot 1 fun _ => ⟨50, some 30, true, 0⟩ }
theorem test_rate_phase_expiry : (after (.ratePhaseExpiry 1) rateDue).ie.slots[1] = ⟨30, none, false, 300⟩ := by decide

/-- Figure 9-6, time 100: the gap's expiry with pending set starts a pulse of 50 ms. -/
def gapDue : State := { State.reset with ie := State.reset.ie.modFlash 11 fun _ => ⟨.gap, 0, true⟩ }
theorem test_flash_phase_expiry : (after (.flashPhaseExpiry 11) gapDue).ie.flash[11] = ⟨.pulse, 50, false⟩ := by decide

/-- R172: the first refresh sends eight 0 levels; an active level LOW indicator, dark, is a 1. -/
def refreshDue : State :=
  { State.reset with ie := { State.reset.ie.modRecord 7 (fun r => { r with activeHigh := false }) with refreshDue := true } }
theorem test_indicator_refresh : (after .indicatorRefresh refreshDue).ie.shifted =
    [false, false, false, false, false, false, false, true] := by decide

/-! ### RSTN -/

/-- R176: while RSTN is low a tick changes nothing. -/
theorem test_reset_assert : (after .resetAssert active).rstnLow = true ∧
    after (.timebaseTick 0xF) (after .resetAssert active) = after .resetAssert active := by decide
theorem test_reset_release : after .resetRelease (after .resetAssert active) = State.reset := by decide

/-! ### Step -/

/-- A waiting command is taken, and the queue's rest stays. -/
theorem test_step_takes_front :
    (match step { State.reset with pending := [.nop 0, .softReset 0] } with
      | .next t => (t.cu.result.code, t.pending)
      | _ => (.none, [])) = (.done, [.softReset 0]) := by decide


/-! ### Witnesses: states and operands that meet the hypotheses of the statements, clause by clause -/

theorem witness_StepTakesFrontCommand :
    ({ State.reset with pending := [.nop 0] }).pending = Instr.nop 0 :: [] ∧ State.reset.pending = [] := by decide

theorem witness_ResetPinTakesPowerOnValues : (after .resetAssert active).rstnLow = true ∧ isReset (.nop 0) = false := by
  decide

theorem witness_TimedCommandRefusesWithBusy : timed.rstnLow = false ∧ timed.cu.timed.isSome = true ∧
    commandOf (.nop 0xAB) = some (0xAB, 0) ∧ checkedOf (.writeHostWeight .ch1 5) = some 0x5A := by decide

theorem witness_CommandsShowTheirSource : State.reset.rstnLow = false ∧
    commandOf (.unknownCommand 1 255) = some (1, 255) ∧ checkedOf (.writeIndicatorRecord 2 0) = some 0x63 := by decide

theorem witness_NopUnknownCodeAndPlainWrites : Ready State.reset ∧ 20 < (21 : BitVec 8).toNat ∧
    plainAddress 0x00 = true ∧ (0x00 : BitVec 7).toNat < 0x0C ∧ plainAddress 0x13 = true ∧
    0x11 < (0x13 : BitVec 7).toNat := ⟨⟨rfl, rfl⟩, by decide⟩

theorem witness_WrittenWordIsItsRow : State.reset.rstnLow = false := rfl

theorem witness_SpiBurstWritesItsWords : (List.replicate 15 true).length < 16 ∧
    [0x1234#16, 0x5678#16][1]? = some 0x5678#16 := by decide

/-- A part with code 20 last completed, and a frame of channel 0 on the lines. -/
def seen : State :=
  { onCh0 State.reset (fun c => { c with frame := some ⟨⟨9, 17, .read⟩, true, some 7⟩ }) with
    cu := { CommandUnit.reset with lastTimed := some (20, .done) }
    ie := { (State.reset.ie.modRecord 0 fun r => { r with override := some ⟨⟨.on, 3⟩, some 65535000⟩ }) with
      shifted := [true, false] }
    spi := .reading 0x7F true [false] }

theorem witness_WindowAndPinsShowTheState :
    timed.cu.timed = some ⟨18, true, false⟩ ∧ (18 : BitVec 8).toNat ≤ 20 ∧ seen.cu.timed = none ∧
    seen.cu.lastTimed = some (20, .done) ∧ (20 : BitVec 8).toNat ≤ 20 ∧ State.reset.cu.lastTimed = none ∧
    seen.ht.outstanding ≤ 16 ∧ seen.ch0.hostQueue.length ≤ 8 ∧ seen.ev.queue.length ≤ 64 ∧
    seen.ht.completions.length ≤ 16 ∧ seen.ch0.hostTurn ≤ 4 ∧ seen.ch0.state = .off ∧ seen.ch0.held = none ∧
    (hostBusy none).ch0.held = some (.host ⟨[], member (rawRead 9 17) 9 17 none, []⟩) ∧
    (jobBusy .active (job .regular false) none).ch0.held = some (.job (job .regular false)) ∧
    seen.ie.records[seen.ie.index].override = some ⟨⟨.on, 3⟩, some 65535000⟩ ∧
    State.reset.ie.records[State.reset.ie.index].override = none ∧ seen.ie.slots[(3 : Fin 4)].half ≤ 255 ∧
    seen.rstnLow = false ∧ started State.reset.ch0 = false ∧
    seen.ch0.frame = some ⟨⟨9, 17, .read⟩, true, some 7⟩ ∧ ((Frame.mk 9 17 .read).wire true)[63]? = some .released ∧
    seen.ie.shifted.head? = some true ∧ seen.ie.shifted[1]? = some false ∧ State.reset.ie.shifted = [] ∧
    State.reset.pt.view = none ∧ State.reset.ev.view = none ∧ State.reset.ht.view = none ∧
    State.reset.cu.result.item = none ∧ seen.ie.records[seen.ie.index].condition = .none ∧
    State.reset.spi = .idle ∧ seen.spi = .reading 0x7F true (false :: []) ∧ (after .resetAssert active).rstnLow = true := by
  decide

/-- R192, Figure 10-6: the identification words, and words +0 to +2 of channel 1 at reset (divider 7, interval 100, weight
1). -/
theorem test_identification_and_channel_words : active.readWord 0x00 = 0x2410 ∧ active.readWord 0x01 = 1 ∧
    active.readWord 0x58 = 7 ∧ active.readWord 0x59 = 100 ∧ active.readWord 0x5A = 1 := by decide

/-- R158 and log entry 26: an override without an expiry. -/
theorem witness_WindowAndPinsShowTheState_indefinite :
    let s := after (.override 0) (withArgs State.reset 0 0 0 0x0022 0 0)
    s.ie.records[s.ie.index].override.isSome = true ∧
    s.ie.records[s.ie.index].override.bind Override.timer = none := by decide

/-- The addresses next to a group that Figure 10-2 does not list. -/
theorem witness_WindowAndPinsShowTheState_unlisted : unlisted 0x15 ∧ unlisted 0x3F ∧ unlisted 0x56 ∧ unlisted 0x7F := by
  unfold unlisted
  decide

/-- Figure 6-4, R107: MDC low then high in each bit time, and low with the data released once the frame is over. -/
theorem test_bus_pins : seen.busPins .ch0 0 = ⟨false, .one⟩ ∧ seen.busPins .ch0 1 = ⟨true, .one⟩ ∧
    seen.busPins .ch0 64 = ⟨false, .zero⟩ ∧ seen.busPins .ch0 128 = ⟨false, .released⟩ := by decide

/-- R174: SDO is low in the command byte, shows the word of a read from its bit 15, and is released with SSN high. -/
theorem test_sdo : (State.reset.spiEdge .select).sdo = some false ∧
    ({ State.reset with spi := .reading 0x00 false [] }.spiEdge .fall).spi =
      .reading 0x01 false ((wordBits 0x2410).drop 1) ∧ (seen.spiEdge .deselect).sdo = none := by decide

/-! #### Port Table: commands -/

theorem witness_PortsJoinTheProbeQueue_bind : Ready bindArgs9 ∧
    (let b : Binding := ⟨.ch1, 4, 2, some 0x12345670#32, true⟩
    bindArgs9.argTarget = (9 : PortId).val ∧ bindArgs9.argChannel = chanNumber b.channel ∧
    bindArgs9.argDevice = b.device.toNat ∧ bindArgs9.argRegister = b.profile.val ∧
    b.expected = (if bindArgs9.argIdentityPresent then some bindArgs9.argIdentity else none) ∧
    b.ignoreRevision = bindArgs9.argIgnoreRevision ∧ (bindArgs9.port 9).state = .unbound ∧
    (bindArgs9.profile b.profile).isSome = true ∧
    ∀ q : PortId, (bindArgs9.port q).bound = true →
      (bindArgs9.port q).binding.map (fun c => (c.channel, c.device)) ≠ some (b.channel, b.device)) :=
  ⟨⟨rfl, rfl⟩, by decide⟩

/-- Port 5 named in the arguments of a state whose port 5 is in a state. -/
def named5 (st : PortState) : State := withArgs (sup st) 5 0 0 0 0 0

theorem witness_UnbindEndsSupervision :
    Ready (named5 .lost) ∧ (named5 .lost).argTarget = (5 : PortId).val ∧ ((named5 .lost).port 5).state ≠ .unbound :=
  ⟨⟨rfl, rfl⟩, by decide⟩

theorem witness_SuspendFreezesTheRecord :
    Ready (named5 .probing) ∧ Ready (named5 .active) ∧ Ready (named5 .lost) ∧
    (named5 .lost).argTarget = (5 : PortId).val ∧ ((named5 .probing).port 5).state = .probing ∧
    ((named5 .active).port 5).state = .active ∧ ((named5 .lost).port 5).state = .lost :=
  ⟨⟨rfl, rfl⟩, ⟨rfl, rfl⟩, ⟨rfl, rfl⟩, by decide⟩

theorem witness_PortsJoinTheProbeQueue_resume_retry :
    Ready (named5 .suspended) ∧ Ready (named5 .failed) ∧ (named5 .suspended).argTarget = (5 : PortId).val ∧
    ((named5 .suspended).port 5).binding = some bnd ∧ ((named5 .suspended).port 5).state = .suspended ∧
    (named5 .failed).argTarget = (5 : PortId).val ∧ ((named5 .failed).port 5).binding = some bnd ∧
    ((named5 .failed).port 5).state = .failed :=
  ⟨⟨rfl, rfl⟩, ⟨rfl, rfl⟩, by decide⟩

theorem witness_RefusedPortCommands_range :
    Ready (withArgs active 24 0 0 0 0 0) ∧ 23 < (withArgs active 24 0 0 0 0 0).argTarget ∧
    1 < (withArgs active 0x0200 0 0 0 0 0).argChannel ∧ 31 < (withArgs active 0 32 0 0 0 0).argDevice ∧
    7 < (withArgs active 0 0x0800 0 0 0 0).argRegister := ⟨⟨rfl, rfl⟩, by decide⟩

theorem witness_RefusedPortCommands_state :
    Ready (named5 .failed) ∧ ((named5 .failed).port 5).state = .failed ∧ ((named5 .failed).port 5).state ≠ .suspended ∧
    ((named5 .suspended).port 5).state = .suspended ∧ ((named5 .suspended).port 5).state ≠ .failed ∧
    ((named5 .unbound).port 5).state = .unbound := ⟨⟨rfl, rfl⟩, by decide⟩

/-- BIND of port 0 to channel 0, device address `dev`, profile `n`, beside port 5 bound to device address 3. -/
def bindArgs (dev n : Nat) : State := withArgs active 0 (BitVec.ofNat 16 (dev + 256 * n)) 0 0 0 0

theorem witness_RefusedPortCommands_bind :
    Ready (bindArgs 31 7) ∧ (bindArgs 31 7).argTarget = (0 : PortId).val ∧
    (bindArgs 31 7).argChannel = chanNumber .ch0 ∧ (bindArgs 31 7).argDevice ≤ 31 ∧
    (bindArgs 31 7).argRegister = (7 : Fin 8).val ∧ ((bindArgs 31 7).port 0).state = .unbound ∧
    (bindArgs 31 7).profile 7 = none ∧ (bindArgs 3 2).argRegister = (2 : Fin 8).val ∧
    ((bindArgs 3 2).profile 2).isSome = true ∧
    (∃ q : PortId, ((bindArgs 3 2).port q).bound = true ∧
      ((bindArgs 3 2).port q).binding.map (fun b => (b.channel, b.device.toNat)) =
        some (.ch0, (bindArgs 3 2).argDevice)) :=
  ⟨⟨rfl, rfl⟩, by decide⟩

theorem witness_RefusedPortCommands_bind_bound :
    Ready (withArgs active 5 0x0203 0 0 0 0) ∧ (withArgs active 5 0x0203 0 0 0 0).argTarget = (5 : PortId).val ∧
    ((withArgs active 5 0x0203 0 0 0 0).port 5).state ≠ .unbound := ⟨⟨rfl, rfl⟩, by decide⟩

theorem witness_AckAcknowledgesWhatItNames :
    Ready (withArgs active 24 0 0 0 0 0x01FF) ∧ 23 < (withArgs active 24 0 0 0 0 0x01FF).argTarget ∧
    ((withArgs active 5 0 0 0 0 0x01FF).port 5).state ≠ .unbound ∧
    ((withArgs active 23 0 0 0 0 0x01FF).port 23).state = .unbound ∧
    (withArgs active 23 0 0 0 0 0x01FF).argTarget = (23 : PortId).val := ⟨⟨rfl, rfl⟩, by decide⟩

theorem witness_SnapshotCopiesTheRecord :
    Ready (withArgs active 24 0 0 0 0 0) ∧ 23 < (withArgs active 24 0 0 0 0 0).argTarget ∧
    (withArgs active 23 0 0 0 0 0).argTarget = (23 : PortId).val ∧
    ((withArgs active 23 0 0 0 0 0).port 23).binding = none ∧
    (withArgs active 5 0 0 0 0 0).argTarget = (5 : PortId).val ∧ ((withArgs active 5 0 0 0 0 0).port 5).binding = some bnd ∧
    (active.port 5).state = .active ∧ (active.port 5).reason = some .host ∧ (active.port 5).missCount ≤ 15 ∧
    (active.port 5).attemptCount ≤ 15 ∧ (active.port 5).mirror.speed = none := ⟨⟨rfl, rfl⟩, by decide⟩

/-- Port 5 with a miss count of 2 and an attempt count of 2. -/
def counted : State := active.modPort 5 fun r => { r with missCount := 2, attemptCount := 2 }

theorem witness_TimingParameterWrites :
    Ready counted ∧ (0 : Word).toNat = 0 ∧ 15 < (16 : Word).toNat ∧
    (1 ≤ (1 : Word).toNat ∧ (1 : Word).toNat ≤ 15 ∧ (∃ p : PortId, (1 : Word).toNat < (counted.port p).missCount) ∧
      ∃ p : PortId, (1 : Word).toNat < (counted.port p).attemptCount) ∧
    ((15 : Word).toNat ≤ 15 ∧ (∀ p : PortId, (counted.port p).missCount ≤ (15 : Word).toNat) ∧
      ∀ p : PortId, (counted.port p).attemptCount ≤ (15 : Word).toNat) ∧
    1 ≤ (65535 : Word).toNat := ⟨⟨rfl, rfl⟩, by decide⟩

theorem witness_PortsJoinTheProbeQueue_timers :
    retryDue.rstnLow = false ∧ (retryDue.port 5).binding = some bnd ∧ (retryDue.port 5).probeRetry = some 0 ∧
    lostDue.rstnLow = false ∧ (lostDue.port 5).binding = some bnd ∧ (lostDue.port 5).lostCheck = some 0 ∧
    (active.port 5).probeRetry ≠ some 0 ∧ (active.port 5).lostCheck ≠ some 0 := by decide

/-! #### Port Table: observations and outcomes -/

/-- A fetch of PARTNER alone, of COUNT alone. -/
def partnerFetch : FetchResult := ⟨5, prof, .direct 5, .scan, 0x0001#16, none⟩
def countFetch (first : Word) (second : Option Word) : FetchResult :=
  ⟨5, prof, .indirect 13 0x4007#16 14, .scan, first, second⟩

/-- A recipe as `staged` gives it. -/
def rec1 (low : Nat) (latch : LatchKind) (confirm : Bool) : Recipe := ⟨.direct 1, low, 1, .normal, latch, confirm⟩

theorem witness_FetchResultAppliesServedItems :
    flap.serves .link = some (rec1 2 .latchLow true) ∧ flap.serves .neg = some (rec1 5 .plain false) ∧
    flap.serves .rfault = some (rec1 4 .latchHigh false) ∧ flap.serves .partner = none ∧ flap.serves .speed = none ∧
    partnerFetch.serves .link = none ∧ partnerFetch.serves .rfault = none ∧
    partnerFetch.serves .partner = some ⟨.direct 5, 0, 16, .normal, .plain, false⟩ ∧
    ((active.applyFetch partnerFetch).port 5).mirror.neg = some (.flag true) ∧
    ({ flap with second := some 0 }).live .neg (rec1 5 .plain false) = .flag false ∧
    flap.live .neg (rec1 5 .plain false) ≠ .flag false := by decide

theorem witness_CountObservationAccumulates :
    (countFetch 65535 (some 0)).serves .count = some ⟨.indirect 13 0x4007#16 14, 0, 16, .normal, .clearOnRead, false⟩ ∧
    (∀ i, i ≠ .count → (countFetch 65535 (some 0)).serves i = none) ∧ (active.port 5).saturated = false ∧
    active.ie.flash[(5 : PortId)].phase = .idle := by
  refine ⟨by decide, ?_, by decide, by decide⟩
  intro i hi
  cases i <;> first | rfl | exact absurd rfl hi

/-- R5, R61: a marker mismatch of the worked example: the flags of the present items are set, LINK's event comes first, and
the miss count and sticky-fault are kept. -/
theorem test_marker_mismatch :
    (((active.modPort 5 fun r => { r with missCount := 2, attemptCount := 2, stickyFault := true }).scanOutcome 5
      .markerMismatch).port 5) =
      { record .probing with
        reason := some .remoteReset, missCount := 2, stickyFault := true
        changed := { PerItem.const false with link := true, neg := true, rfault := true, partner := true } } ∧
    ((active.scanOutcome 5 .markerMismatch).ev.queue.map EventRec.body).head? =
      some (.itemChange 5 .link (some (.flag true)) none .scan) ∧
    (active.scanOutcome 5 .markerMismatch).ch0.sched.probes = [(5, .probe)] := by decide

theorem witness_ScanOutcomesCountMissesAndLoseThePort :
    (active.port 5).state = .active ∧ (active.port 5).missCount + 1 < active.pt.missLimit ∧
    (counted.port 5).state = .active ∧ (counted.port 5).missCount ≤ counted.pt.missLimit ∧
    counted.pt.missLimit ≤ (counted.port 5).missCount + 1 := by decide

/-- Port 5 PROBING with an attempt count of 3, one short of the limit. -/
def lastAttempt : State := (sup .probing).modPort 5 fun r => { r with attemptCount := 3 }

theorem witness_ProbeAndPresenceOutcomes :
    ((sup .probing).port 5).binding = some bnd ∧ ((sup .probing).port 5).state = .probing ∧
    ((sup .probing).port 5).attemptCount + 1 < (sup .probing).pt.attemptLimit ∧
    (lastAttempt.port 5).binding = some bnd ∧ (lastAttempt.port 5).state = .probing ∧
    (lastAttempt.port 5).attemptCount ≤ lastAttempt.pt.attemptLimit ∧
    lastAttempt.pt.attemptLimit ≤ (lastAttempt.port 5).attemptCount + 1 ∧
    ((sup .lost).port 5).binding = some bnd ∧ ((sup .lost).port 5).state = .lost := by decide

theorem witness_StaleJobChangesNoRecord :
    let s := jobBusy .suspended (job .regular true) (some 7)
    s.rstnLow = false ∧ s.cu.softResetting = false ∧ (s.chan .ch0).held = some (.job (job .regular true)) ∧
    (job .regular true).stale = true ∧ (s.chan .ch0).frame = some ⟨⟨3, 1, .read⟩, true, some 7⟩ ∧
    s.ch0.drain ≠ .abort ∧ ((job .regular true).access.advance (fun _ => false) .noAnswer).2 = true ∧
    ((Access.start (.indirect 13 0x4007#16 14) none).advance (fun _ => false) .written).2 = false := by decide

/-- R64, R100: with its one read ended, the stale job ends and the channel is free; a stale job that has written an
address makes its data read. -/
theorem test_stale_job_ends_with_its_piece :
    (after (.frameEnd .ch0 true 0) (jobBusy .suspended (job .regular true) (some 7))).ch0.held = none ∧
    (after (.frameEnd .ch0 true 0) (jobBusy .suspended (job .regular true) (some 7))).ch0.state = .idle ∧
    (let j := { job .regular true with access := .start (.indirect 13 0x4007#16 14) none }
     let s := onCh0 (jobBusy .suspended j (some 7)) fun c => { c with frame := some ⟨⟨3, 13, .write 0x4007⟩, true, some 7⟩ }
     (after (.frameEnd .ch0 true 0) s).ch0.frame = some ⟨⟨3, 14, .read⟩, true, none⟩) := by decide

/-- The probe job of port 5 at a piece of a kind, with its frame on the lines. -/
def pieceOf (k : PieceKind) (loc : Location) (data : Option Word) : Job :=
  { job .probe false with current := k, access := .start loc data, identHigh := some 0x1234#16 }

/-- `pieceOf` with an expected identity. -/
def expecting (k : PieceKind) : Job :=
  { pieceOf k (.direct 3) none with binding := { bnd with expected := some 0x12345678#32 } }

/-- The access of a job after a result. -/
def advanced (j : Job) (res : FrameResult) : Access × Bool :=
  j.access.advance (fun w => decide (j.current = .fetch) && j.profile.wantsConfirm j.access.loc w) res

theorem witness_JobFrameEndGoesOnOrHandsOver :
    (let s := jobBusy .probing (pieceOf .fetch (.direct 1) none) (some 7);
      s.rstnLow = false ∧ s.cu.softResetting = false ∧ s.ch0.drain ≠ .abort ∧
      s.ch0.held = some (.job (pieceOf .fetch (.direct 1) none)) ∧ (pieceOf .fetch (.direct 1) none).stale = false ∧
      s.ch0.frame = some ⟨⟨3, 1, .read⟩, true, some 7⟩) ∧
    (advanced (pieceOf .fetch (.direct 1) none) (.answered 0)).2 = false ∧
    (advanced (pieceOf .fetch (.direct 1) none) (.answered 4)).2 = true ∧
    (advanced (pieceOf .fetch (.direct 1) none) (.answered 4)).1.failed = false ∧
    (advanced (pieceOf .fetch (.direct 1) none) .noAnswer).2 = true ∧
    (advanced (pieceOf .fetch (.direct 1) none) .noAnswer).1.failed = true ∧
    (advanced (pieceOf .setup (.paged 31 1 2 none) (some 3)) .written).2 = false ∧
    (advanced (pieceOf .setup (.direct 2) (some 3)) .written).2 = true ∧
    (advanced (pieceOf .markerRead (.direct 6) none) (.answered 1)).1.first ≠ prof.marker.map WriteStep.value ∧
    (expecting .identLow).binding.expected = some 0x12345678#32 ∧ (0x1234#16 ++ 0x5679#16 : Identity) ≠ 0x12345678#32 ∧
    (pieceOf .identLow (.direct 3) none).binding.expected = none ∧
    (advanced (pieceOf .markerRead (.direct 6) none) (.answered 9)).1.first =
      ({ stage with markerPresent := true, marker := ⟨{ StagedLoc.zero with reg := 6 }, 9⟩ }).install.marker.map
        WriteStep.value := by decide

/-- R9, R54: the identity is stored once its low word is answered. -/
theorem test_identity_is_stored :
    ((after (.frameEnd .ch0 false 0x5678) (jobBusy .probing (pieceOf .identLow (.direct 3) none) (some 7))).port
      5).lastIdentity = some 0x12345678#32 ∧
    ((after (.frameEnd .ch0 false 0x5679) (jobBusy .probing (expecting .identLow) (some 7))).port 5).state = .failed := by
  decide

/-! #### Profile Store -/

theorem witness_ProfileLoadInstallsOrRefuses :
    Ready (withArgs active 8 0 0 0 0 0) ∧ 7 < (withArgs active 8 0 0 0 0 0).argTarget ∧
    (withArgs active 2 0 0 0 0 0).argTarget = (2 : Fin 8).val ∧
    (∃ p : PortId, (active.port p).bound = true ∧ (active.port p).binding.map Binding.profile = some 2) ∧
    (withArgs active 7 0 0 0 0 0).argTarget = (7 : Fin 8).val ∧
    (∀ p : PortId, (active.port p).bound = true → (active.port p).binding.map Binding.profile ≠ some 7) ∧
    active.ps.staging.check = none ∧ badStage.check = some (6, some .rfault) := ⟨⟨rfl, rfl⟩, by decide⟩

/-- A staging record with `badStage`'s faults mended meets every check, its marker among them. -/
theorem witness_CheckedStagingRecordIsSound : stage.check = none ∧
    ({ stage with markerPresent := true, marker := ⟨{ StagedLoc.zero with reg := 6 }, 0⟩ }).check = none ∧
    ({ stage with markerPresent := true, marker := ⟨{ StagedLoc.zero with reg := 5 }, 0⟩ }).check =
      some (9, some .partner) := by decide

/-- A record with one recipe beside LINK. -/
def beside (i : Item) (r : StagedRecipe) : Staging :=
  { Staging.zero with recipes := ({ PerItem.const StagedRecipe.zero with link := staged 1 2 1 .plain false }).set i r }

/-- R42, Figure 2-8: each check fails first on a record of its own. -/
theorem test_staging_checks :
    (beside .neg (staged 1 0 0 .plain false)).check = some (1, some .neg) ∧
    (beside .energy (staged 1 0 2 .plain false)).check = some (2, some .energy) ∧
    (beside .speed (staged 1 0 3 .plain false)).check = some (3, some .speed) ∧
    (beside .count (staged 1 0 15 .clearOnRead false)).check = some (4, some .count) ∧
    (beside .rfault (staged 1 0 1 .latchLow false)).check = some (5, some .rfault) ∧
    (beside .duplex (staged 1 0 1 .plain true)).check = some (6, some .duplex) ∧
    (beside .partner (staged 1 0 16 .plain false)).check = some (7, some .partner) ∧
    ({ stage with identPresent := true, identHigh := ⟨.paged, 2⟩ }).check = some (8, none) ∧
    Staging.zero.check = some (10, none) := by decide

theorem witness_FetchPlanCoversEveryItemOnce : (fetchPlan stage.recipe).length = 3 ∧
    stage.recipe .link = some (rec1 2 .latchLow true) := by decide

/-- The staging index at `n`. -/
def indexed (n : Nat) : State := { State.reset with ps := { State.reset.ps with stagingIndex := n } }

theorem witness_StagingWordsReadBack :
    State.reset.rstnLow = false ∧ (17 : Word).toNat ≤ 17 ∧ 17 < (18 : Word).toNat ∧
    stagingPart (indexed 7).ps.stagingIndex = .recipe .count ∧ stagingPart (indexed 8).ps.stagingIndex = .step 0 ∧
    stagingPart (indexed 15).ps.stagingIndex = .step 7 ∧ stagingPart (indexed 16).ps.stagingIndex = .marker ∧
    stagingPart (indexed 17).ps.stagingIndex = .general ∧ bits 0xFFFE 0 2 ≤ 2 ∧ bits 0xFE1F 5 5 ≤ 16 ∧
    bits 0xF1FF 9 4 ≤ 8 ∧ bits 0xFFFF 0 2 = 3 ∧ 16 < bits 0x0220 5 5 ∧ bits 0xFFFF 1 2 = 3 ∧ bits 0xFFFF 8 2 = 3 ∧
    8 < bits 0x1200 9 4 := by decide

theorem witness_StagingWordsReadBack_law : StagingLaw (indexed 17).ps :=
  ⟨by decide, by intro i; cases i <;> decide, by decide⟩

/-- R181: a width of 17, a method of 3 and a length of 9 are not stored, and the other fields of their words are. -/
theorem test_staging_out_of_range :
    (after (.writeStagingPart 3 0x2221) (after (.writeStagingPart 3 0x0200) (indexed 5))).readWord 0x44 = 0x2201#16 ∧
    (after (.writeStagingPart 0 0x00FF) (after (.writeStagingPart 0 0x0001) (indexed 16))).readWord 0x41 = 0x00FD#16 ∧
    (after (.writeStagingPart 1 0x3300) (after (.writeStagingPart 1 0x1000) (indexed 17))).readWord 0x42 = 0x3100#16 := by
  decide

theorem witness_AccessesMakeTheirFrames : (fun w : Word => w.getLsbD 0) 0 = false ∧
    (fun w : Word => w.getLsbD 0) 1 = true := by decide

/-! #### Scan Scheduler and Timebase -/

theorem witness_ScanListWritesWaitForTheNextPass :
    Ready (withArgs State.reset 0x0200 0 0 0 0 0) ∧ 1 < (withArgs State.reset 0x0200 0 0 0 0 0).argChannel ∧
    31 < (withArgs State.reset 0 0 0 32 0 0).argIndex ∧ 32 < (withArgs State.reset 0 0 0 33 0 0).argIndex ∧
    23 < (withArgs State.reset 24 0 0 0 0 0).argTarget ∧
    (withArgs State.reset 0x0117 0 0 31 0 0).argChannel = chanNumber .ch1 ∧
    (withArgs State.reset 0x0117 0 0 31 0 0).argIndex = (31 : Fin 32).val ∧
    (withArgs State.reset 0x0117 0 0 31 0 0).argTarget = (23 : PortId).val ∧
    (withArgs State.reset 0 0 0 32 0 0).argIndex ≤ 32 := ⟨⟨rfl, rfl⟩, by decide⟩

/-- `passDue` with its scheduler changed. -/
def passDueWith (f : Scheduler → Scheduler) : State := passDue.modSched .ch0 f

theorem witness_PassIntervalExpiryActsByPassState :
    passDue.rstnLow = false ∧ active.ch0.sched.passTimer ≠ .running 0 ∧ passDue.ch0.sched.passTimer = .running 0 ∧
    (passDueWith fun c => { c with pass := some ⟨[0], 0⟩ }).ch0.sched.pass.isSome = true ∧
    (passDueWith fun c => { c with pass := some ⟨[0], 0⟩ }).ch0.sched.passTimer = .running 0 ∧
    (passDueWith fun c => { c with scanLength := 0 }).ch0.sched.scanLength = 0 ∧
    (passDueWith fun c => { c with scanLength := 0 }).ch0.sched.passTimer = .running 0 ∧
    (onCh0 passDue fun c => { c with state := .halted }).ch0.state = .halted ∧
    (onCh0 passDue fun c => { c with state := .halted }).ch0.sched.passTimer = .running 0 ∧
    passDue.ch0.sched.pass = none ∧ passDue.ch0.state ≠ .halted ∧ passDue.ch0.sched.scanLength ≠ 0 := by decide

theorem witness_ScanListWritesWaitForTheNextPass_starts :
    passDue.rstnLow = false ∧ passDue.ch0.sched.passTimer = .running 0 ∧ passDue.ch0.sched.pass = none ∧
    passDue.ch0.state ≠ .halted ∧ 0 < passDue.ch0.sched.scanLength ∧
    (passDueWith fun c => { c with scanLength := 0 }).ch0.sched.scanLength = 0 ∧
    (let s := passDueWith fun c => { c with pass := some ⟨[0], 1⟩ }
     s.ch0.sched.probes = [] ∧ s.ch0.sched.urgent = [] ∧ s.ch0.sched.pass = some ⟨[0], 1⟩ ∧
      [(0 : PortId)][1]? = none) := by decide

/-- An open pass over ports 0 and 5 at a walk position. -/
def walking (n : Nat) (expiry : Bool) : State :=
  passDueWith fun c => { c with pass := some ⟨[0, 5], n⟩, pendingExpiry := expiry, passTimer := .running 9 }

theorem witness_ConsultationFindsWorkInOrder :
    (passDueWith fun c => { c with probes := [(5, .presence)] }).ch0.sched.probes = (5, .presence) :: [] ∧
    (passDueWith fun c => { c with urgent := [5] }).ch0.sched.urgent = 5 :: [] ∧
    passDue.ch0.sched.probes = [] ∧ passDue.ch0.sched.urgent = [] ∧ passDue.ch0.sched.pass = none ∧
    (walking 0 false).ch0.sched.pass = some ⟨[0, 5], 0⟩ ∧ [(0 : PortId), 5][1]? = some 5 ∧
    ((walking 0 false).port 5).activeOn .ch0 = true ∧ ((walking 0 false).port 0).activeOn .ch0 = false ∧
    (walking 2 true).ch0.sched.pass = some ⟨[0, 5], 2⟩ ∧ (walking 2 true).ch0.sched.pendingExpiry = true ∧
    (walking 2 false).ch0.sched.pendingExpiry = false ∧ [(0 : PortId), 5][2]? = none ∧
    0 < (walking 2 true).ch0.sched.scanLength ∧
    ((walking 2 true).modSched .ch0 fun c => { c with scanLength := 0 }).ch0.sched.scanLength = 0 ∧
    addedOnce [] (linePorts (walking 2 true) .ch0 (walking 2 true).att.levels) = [] ∧
    addedOnce [] (linePorts attended .ch0 4) = [5] := by decide

theorem witness_TickCountsTimersAndSamplesAttention :
    attended.rstnLow = false ∧ attended.ie.refreshCount < 4 ∧
    ({ attended with ie := { attended.ie with refreshCount := 4 } }).ie.refreshCount = 4 ∧
    attended.mayDecide .ch0 = false ∧ attended.mayDecide .ch1 = false ∧ (idle0 attended).mayDecide .ch0 = true ∧
    attended.ch0.sched.urgent.length < (addedOnce attended.ch0.sched.urgent (linePorts attended .ch0 4)).length := by decide

theorem witness_AttentionSetAndOverrunWrites :
    State.reset.rstnLow = false ∧ bit 0x0010 4 = true ∧ bit 0xFFEF 4 = false ∧ (1 : Fin 4) ≠ 0 := by decide

/-! #### Arbiter and Bus Channel -/

/-- Channel 0 IDLE beside ACTIVE port 5, with units queued and a host-turn counter. -/
def queued (units : List (List HostTxn)) (turn : Nat) : State :=
  onCh0 (idle0 active) fun c => { c with hostQueue := units, hostTurn := turn }

theorem witness_TurnRuleChoosesTheSide :
    (queued [[rawRead 9 17]] 1).ch0.hostReady = true ∧ 0 < (queued [[rawRead 9 17]] 1).ch0.hostTurn ∧
    (queued [[rawRead 9 17]] 0).ch0.hostReady = true ∧ (queued [[rawRead 9 17]] 0).ch0.hostTurn = 0 ∧
    (queued [] 1).ch0.hostReady = false ∧ ((queued [] 1).port 5).binding = some bnd ∧
    (queued [] 1).profile bnd.profile = some prof ∧
    (∀ k : DeviceKind, k = .probe ∨ k = .regular → (prof.pieces k).head? = some ⟨.fetch, .direct 1, none⟩) ∧
    active.mayDecide .ch0 = false := by
  refine ⟨by decide, by decide, by decide, by decide, by decide, by decide, by decide, ?_, by decide⟩
  rintro k (rfl | rfl) <;> decide

/-- A profile with identity registers 2 and 3. -/
def identified : Profile :=
  ({ stage with identPresent := true, identHigh := ⟨.direct, 2⟩, identLow := ⟨.direct, 3⟩ }).install

theorem witness_NoticeDecidesUntilNothingIsGranted :
    (queued [[rawRead 9 17]] 1).mayDecide .ch0 = true ∧ active.mayDecide .ch0 = false ∧
    (queued [[rawRead 9 17]] 0).ch0.hostTurn = 0 ∧ (queued [] 1).ch0.hostReady = false ∧
    ((queued [] 1).port 5).binding = some bnd ∧ (queued [] 1).profile bnd.profile = some prof ∧
    (prof.pieces .presence) = ⟨.presence, .direct 1, none⟩ :: [] ∧ (queued [[rawRead 9 17]] 1).ch0.hostReady = true ∧
    0 < (queued [[rawRead 9 17]] 1).ch0.hostTurn ∧ (queued [[rawRead 9 17]] 1).ch0.hostQueue = [rawRead 9 17] :: [] ∧
    identified.identity = some (2, 3) ∧ prof.identity = none ∧ prof.plan.head?.map PlanEntry.loc = some (.direct 1) := by
  decide

/-- R95, R99: a POST on an IDLE channel is granted at once, one ITEM_READ of an ACTIVE port included. -/
theorem test_notice_grants :
    ((idle0 active).notice .ch0).ch0.held = none ∧
    (((queued [[⟨.ch0, 1, .itemRead 5 .link 1⟩]] 1).notice .ch0).ch0.frame = some ⟨⟨3, 1, .read⟩, true, none⟩) ∧
    ((queued [[⟨.ch0, 1, .itemRead 6 .link 1⟩]] 1).notice .ch0).ht.completions =
      [⟨⟨.ch0, 1, .itemRead 6 .link 1⟩, .portGone, none⟩] := by decide

theorem witness_ChannelConfigurationWrites :
    Ready State.reset ∧ (3 ≤ (3 : Word).toNat ∧ (63 : Word).toNat ≤ 63) ∧ (2 : Word).toNat < 3 ∧ 63 < (64 : Word).toNat ∧
    1 ≤ (1 : Word).toNat ∧ (0 : Word).toNat = 0 ∧ (4 : Word).toNat ≤ 4 ∧ 4 < (5 : Word).toNat :=
  ⟨⟨rfl, rfl⟩, by decide⟩

/-- Channel 0 with a stale probe job's frame waiting at the start of a piece. -/
def staleWaiting : State := jobBusy .suspended (job .probe true) none

/-- Channel 0 of a state in a drain that a timed command awaits. -/
def drained (s : State) (d : Drain) (t : Timed) : State :=
  { onCh0 s (fun c => { c with enabled := decide (d ≠ .disable), state := .draining, drain := d }) with
    cu := { CommandUnit.reset with timed := some t } }

/-- `hostBusy none` in a disable drain that CHANNEL_ENABLE(off) awaits. -/
def disabling : State := drained (hostBusy none) .disable ⟨17, true, false⟩

theorem witness_IdleLineCheckStartsOrHalts :
    State.reset.ch0.frame = none ∧ started (hostBusy (some 7)).ch0 = true ∧
    ((hostBusy none).rstnLow = false ∧ (hostBusy none).ch0.frame = some ⟨⟨9, 17, .read⟩, true, none⟩ ∧
      (hostBusy none).ch0.drain ≠ .disable ∧
      (hostBusy none).ch0.held = some (.host ⟨[], member (rawRead 9 17) 9 17 none, []⟩)) ∧
    (staleWaiting.ch0.frame = some ⟨⟨3, 1, .read⟩, true, none⟩ ∧ staleWaiting.ch0.drain = .none ∧
      staleWaiting.ch0.held = some (.job (job .probe true)) ∧ (job .probe true).stale = true ∧
      (job .probe true).access.loc = .direct 1 ∧ (job .probe true).access.phase = .main) ∧
    (let s := drained (staleWaiting) .disable ⟨17, true, false⟩;
      s.ch0.frame = some ⟨⟨3, 1, .read⟩, true, none⟩ ∧ s.ch0.drain = .disable ∧
      s.ch0.held = some (.job (job .probe true)) ∧
      s.cu.timed = some ⟨17, decide (Chan.ch0 = .ch0), decide (Chan.ch0 = .ch1)⟩) ∧
    (let s := jobBusy .active (job .regular false) none;
      s.ch0.frame = some ⟨⟨3, 1, .read⟩, true, none⟩ ∧ s.ch0.held = some (.job (job .regular false)) ∧
      (job .regular false).kind = .regular ∧ (job .regular false).stale = false) ∧
    (let s := jobBusy .probing (job .probe false) none;
      s.ch0.frame = some ⟨⟨3, 1, .read⟩, true, none⟩ ∧ s.ch0.held = some (.job (job .probe false)) ∧
      (job .probe false).kind = ProbeKind.probe.unit ∧ (s.port 5).state = memberState .probe ∧
      (s.port 5).binding = some bnd ∧ bnd.channel = .ch0 ∧ s.cu.softResetting = false) ∧
    (disabling.ch0.frame = some ⟨⟨9, 17, .read⟩, true, none⟩ ∧ disabling.ch0.drain = .disable ∧
      disabling.cu.timed = some ⟨17, decide (Chan.ch0 = .ch0), decide (Chan.ch0 = .ch1)⟩) := by decide

/-- Channel 0 with the frame of a RAW_WRITE of 1234H on the lines. -/
def writeBusy : State :=
  onCh0 (idle0 State.reset) fun c =>
    { c.runHost ⟨[], member ⟨.ch0, 8, .rawWrite 9 17 0x1234#16⟩ 9 17 (some 0x1234#16), []⟩ with
      frame := some ⟨⟨9, 17, .write 0x1234#16⟩, true, some 7⟩ }

theorem witness_HostFrameEndRunsTheUnitsMembers_raw :
    let m := member (rawRead 9 17) 9 17 none
    let n := member ⟨.ch0, 8, .rawWrite 9 17 0x1234#16⟩ 9 17 (some 0x1234#16)
    ((hostBusy (some 7)).rstnLow = false ∧ (hostBusy (some 7)).ch0.frame = some ⟨⟨9, 17, .read⟩, true, some 7⟩ ∧
      (hostBusy (some 7)).ch0.drain ≠ .abort ∧ (hostBusy (some 7)).ch0.held = some (.host ⟨[], m, []⟩) ∧
      (m.access.advance (fun _ => false) (.answered 1)).2 = true ∧
      (m.access.advance (fun _ => false) .noAnswer).1.failed = true) ∧
    (writeBusy.rstnLow = false ∧ writeBusy.ch0.frame = some ⟨⟨9, 17, .write 0x1234#16⟩, true, some 7⟩ ∧
      writeBusy.ch0.drain ≠ .abort ∧ writeBusy.ch0.held = some (.host ⟨[], n, []⟩) ∧
      (n.access.advance (fun _ => false) .written).2 = true) := by decide

/-- Channel 0 with a RAW_READ of ACTIVE port 5's register 1 on the lines. -/
def portRead : State :=
  onCh0 (idle0 active) fun c =>
    { c.runHost ⟨[], member (rawRead 3 1) 3 1 none, [⟨.ch0, 1, .itemRead 5 .link 1⟩]⟩ with
      frame := some ⟨⟨3, 1, .read⟩, true, some 7⟩ }

/-- Port 5 in a state, with an ITEM_READ of COUNT behind an INDIRECT location at its turn. -/
def itemRun : HostMember :=
  { txn := ⟨.ch0, 2, .itemRead 5 .count 1⟩, device := 3, profile := some prof
    access := .start (.indirect 13 0x4007#16 14) none, stale := false }

theorem witness_HostFrameEndRunsTheUnitsMembers_port :
    ((portRead.port 5).state = .active ∧ (portRead.port 5).binding = some bnd ∧ bnd.channel = .ch0 ∧ bnd.device = 3 ∧
      portRead.profile bnd.profile = some prof ∧ prof.recipes.get .link = some (rec1 2 .latchLow true) ∧
      (rec1 2 .latchLow true).loc = .direct 1) ∧
    (itemRun.access.advance (fun _ => false) .written).2 = false ∧ itemRun.stale = false ∧
    (active.port 5).bindings = 1 ∧ (active.port 6).binding = none ∧ ((sup .lost).port 5).state ≠ .active ∧
    ((sup .lost).port 5).binding = some bnd ∧
    prof.recipes.get .count = some ⟨.indirect 13 0x4007#16 14, 0, 16, .normal, .clearOnRead, false⟩ := by decide

/-- The laws of `portRead`'s Port Table that the absorption of a RAW_READ asks for. -/
theorem witness_HostFrameEndRunsTheUnitsMembers_unique : UniqueLaw portRead.pt := by unfold UniqueLaw; decide

/-- R135, R129, R130: a RAW_READ of a bound port's item register is applied with the cause HOST, and the chain goes on
with the ITEM_READ at its turn. -/
theorem test_raw_read_is_absorbed :
    ((after (.frameEnd .ch0 false 0x0030) portRead).port 5).stickyDown = true ∧
    (after (.frameEnd .ch0 false 0x0030) portRead).ev.queue.map EventRec.body =
      [.itemChange 5 .link (some (.flag true)) (some (.flag false)) .host,
        .itemChange 5 .rfault (some (.flag false)) (some (.flag true)) .host] ∧
    (after (.frameEnd .ch0 false 0x0030) portRead).ch0.frame = some ⟨⟨3, 1, .read⟩, true, none⟩ := by decide

theorem witness_FrameEndChangesThePreambleSet :
    started State.reset.ch0 = false ∧ (hostBusy (some 7)).rstnLow = false ∧
    (hostBusy (some 7)).ch0.frame = some ⟨⟨9, 17, .read⟩, true, some 7⟩ ∧
    (hostBusy (some 7)).cu.softResetting = false := by decide

/-- Channel 0 or 1 named in the arguments of a state, with the on option. -/
def onNamed (s : State) (n : Nat) (on : Bool) : State :=
  withArgs s (BitVec.ofNat 16 (256 * n)) 0 0 0 0 (if on then 0x0800 else 0)

theorem witness_DrainsEndWithTheFrameInFlight_abort :
    let s := drained (jobBusy .active (job .regular false) (some 7)) .abort ⟨18, true, false⟩
    let p := drained (jobBusy .probing (job .probe false) (some 7)) .abort ⟨18, true, false⟩
    let h := drained (hostBusy (some 7)) .abort ⟨18, true, false⟩
    (s.rstnLow = false ∧ s.ch0.drain = .abort ∧ s.ch0.frame = some ⟨⟨3, 1, .read⟩, true, some 7⟩ ∧
      s.cu.timed = some ⟨18, decide (Chan.ch0 = .ch0), decide (Chan.ch0 = .ch1)⟩ ∧
      s.ch0.held = some (.job (job .regular false)) ∧ (job .regular false).kind = .regular) ∧
    (p.ch0.held = some (.job (job .probe false)) ∧ (job .probe false).stale = false ∧
      (job .probe false).kind = ProbeKind.probe.unit ∧ (p.port 5).state = memberState .probe ∧
      (p.port 5).binding = some bnd ∧ bnd.channel = .ch0) ∧
    (h.ch0.drain = .abort ∧ h.ch0.frame = some ⟨⟨9, 17, .read⟩, true, some 7⟩ ∧
      h.ch0.held = some (.host ⟨[], member (rawRead 9 17) 9 17 none, []⟩)) := by decide

theorem witness_DrainsEndWithTheFrameInFlight_soft_reset :
    (drained (hostBusy (some 7)) .abort ⟨20, true, false⟩).cu.timed = some ⟨20, true, false⟩ ∧
    (drained (hostBusy (some 7)) .abort ⟨20, true, true⟩).cu.timed = some ⟨20, true, true⟩ ∧
    (drained (hostBusy (some 7)) .abort ⟨20, true, true⟩).ch0.drain = .abort ∧
    (let s := drained (jobBusy .probing (job .probe false) (some 7)) .abort ⟨20, true, true⟩
     s.ch0.held = some (.job (job .probe false)) ∧ s.cu.timed = some ⟨20, true, true⟩ ∧ s.ch0.drain = .abort ∧
      s.ch0.frame = some ⟨⟨3, 1, .read⟩, true, some 7⟩) := by decide

/-- R103, R118: the channel freed first is IDLE with no grant, and SOFT_RESET waits for the other. -/
theorem test_soft_reset_waits :
    let s := drained (jobBusy .probing (job .probe false) (some 7)) .abort ⟨20, true, true⟩
    (after (.frameEnd .ch0 true 0) s).ch0.state = .idle ∧ (after (.frameEnd .ch0 true 0) s).ch0.held = none ∧
    (after (.frameEnd .ch0 true 0) s).cu.timed = some ⟨20, false, true⟩ := by decide

/-- R88, R118: the frame in flight of an abort drain finishes a fetch: its result is applied, and the channel is IDLE. -/
theorem test_drained_fetch_is_applied :
    let s := drained (jobBusy .active (job .regular false) (some 7)) .abort ⟨18, true, false⟩
    ((after (.frameEnd .ch0 false 0x0024) s).port 5).mirror.link = some (.flag true) ∧
    (after (.frameEnd .ch0 false 0x0024) s).ch0.state = .idle ∧ (after (.frameEnd .ch0 false 0x0024) s).cu.timed = none := by
  decide

theorem witness_ChannelCommandsActByState_enable :
    Ready (onNamed State.reset 1 true) ∧ (onNamed State.reset 1 true).argChannel = chanNumber .ch1 ∧
    (onNamed State.reset 1 true).argOn = true ∧ (onNamed State.reset 1 true).ch1.state = .off ∧
    (onNamed (hostBusy none) 0 true).ch0.state ≠ .off ∧ (onNamed State.reset 0 false).argOn = false ∧
    (onNamed halted 0 false).ch0.state = .halted ∧
    ((onNamed (idle0 active) 0 false).ch0.state = .idle ∧ (onNamed (idle0 active) 0 false).ch0.held = none ∧
      (onNamed (idle0 active) 0 false).ch0.frame = none) ∧
    ((onNamed (hostBusy none) 0 false).ch0.state = .busy ∧ (onNamed (hostBusy none) 0 false).ch0.held.isSome = true) :=
  ⟨⟨rfl, rfl⟩, by decide⟩

theorem witness_ChannelCommandsActByState_abort :
    Ready (onNamed State.reset 2 true) ∧ 1 < (onNamed State.reset 2 true).argChannel ∧
    Ready (onNamed (hostBusy (some 7)) 0 false) ∧ (onNamed (hostBusy (some 7)) 0 false).argChannel = chanNumber .ch0 ∧
    started (onNamed (hostBusy (some 7)) 0 false).ch0 = true ∧ (onNamed (idle0 active) 0 false).ch0.held = none ∧
    started (onNamed (idle0 active) 0 false).ch0 = false ∧
    ((onNamed (hostBusy none) 0 false).ch0.held = some (.host ⟨[], member (rawRead 9 17) 9 17 none, []⟩) ∧
      started (onNamed (hostBusy none) 0 false).ch0 = false) ∧
    (let s := onNamed (jobBusy .active (job .regular false) none) 0 false;
      s.ch0.held = some (.job (job .regular false)) ∧ (job .regular false).kind = .regular ∧ started s.ch0 = false) ∧
    (let s := onNamed (jobBusy .probing (job .probe false) none) 0 false;
      s.ch0.held = some (.job (job .probe false)) ∧ (job .probe false).kind = ProbeKind.probe.unit ∧
      (job .probe false).stale = false ∧ started s.ch0 = false ∧ (s.port 5).state = memberState .probe ∧
      (s.port 5).binding = some bnd ∧ bnd.channel = .ch0) :=
  ⟨⟨rfl, rfl⟩, by decide, ⟨rfl, rfl⟩, by decide⟩

theorem witness_ChannelCommandsActByState_restart :
    Ready (onNamed halted 0 false) ∧ (onNamed halted 0 false).argChannel = chanNumber .ch0 ∧
    (onNamed halted 0 false).ch0.state = .halted ∧ (onNamed State.reset 1 false).argChannel = chanNumber .ch1 ∧
    (onNamed State.reset 1 false).ch1.state ≠ .halted := ⟨⟨rfl, rfl⟩, by decide⟩

/-- Channel 0 with a frame on the lines; channel 1 with a chain held whose frame waits, and a unit queued. -/
def halfDrained : State :=
  (hostBusy (some 7)).modChan .ch1 fun c =>
    { c.turnOn.runHost ⟨[⟨⟨.ch1, 1, .rawRead 1 1⟩, .noAnswer, none⟩], member ⟨.ch1, 2, .rawRead 2 2⟩ 2 2 none, []⟩ with
      frame := some ⟨⟨2, 2, .read⟩, true, none⟩, hostQueue := [[⟨.ch1, 3, .rawRead 3 3⟩]] }

/-- R117, R138, R190: the drain that ends at once places its records, the outstanding count is kept, channel 0 drains. -/
theorem test_soft_reset_drain :
    (after (.softReset 0) halfDrained).ht =
      { halfDrained.ht with
        completions := [⟨⟨.ch1, 1, .rawRead 1 1⟩, .noAnswer, none⟩, ⟨⟨.ch1, 2, .rawRead 2 2⟩, .aborted, none⟩,
          ⟨⟨.ch1, 3, .rawRead 3 3⟩, .aborted, none⟩] } ∧
    (after (.softReset 0) halfDrained).ch0.state = .draining ∧ (after (.softReset 0) halfDrained).ch1.state = .idle ∧
    (after (.softReset 0) halfDrained).cu.timed = some ⟨20, true, false⟩ := by decide

theorem witness_SoftResetKeepsTheConfiguration :
    Ready (hostBusy none) ∧ (started (hostBusy none).ch0 = false ∧ started (hostBusy none).ch1 = false) ∧
    Ready halfDrained ∧ started halfDrained.ch0 = true ∧ started halfDrained.ch1 = false :=
  ⟨⟨rfl, rfl⟩, by decide, ⟨rfl, rfl⟩, by decide⟩

/-! #### Host Transaction Unit -/

/-- A POST of a kind on channel 0, to device address 31 and register 31 (or port 5 and item 7), with a continue flag. -/
def posting (s : State) (kind : Nat) (more : Bool) : State :=
  withArgs s 5 0x1F1F 0xABCD 0 (BitVec.ofNat 16 (0x7000 + 256 * kind + (if more then 1024 else 0) + 0x2A)) 0

/-- Channel 0 with an open chain of some members at the tail. -/
def chained (members : Nat) : State :=
  onCh0 (queued [[rawRead 1 1], List.replicate members (rawRead 9 17)] 1) fun c => { c with chainOpen := true }

theorem witness_PostPlacesItsTransaction_new :
    Ready (posting (queued (List.replicate 7 [rawRead 1 1]) 1) 0 true) ∧
    postAsks (posting (queued (List.replicate 7 [rawRead 1 1]) 1) 0 true) 0 (.postRawRead 0)
      ⟨.ch0, 0x2A, .rawRead 31 31⟩ ∧
    (posting (queued (List.replicate 7 [rawRead 1 1]) 1) 0 true).ht.outstanding < 16 ∧
    (posting (queued (List.replicate 7 [rawRead 1 1]) 1) 0 true).ch0.chainOpen = false ∧
    (posting (queued (List.replicate 7 [rawRead 1 1]) 1) 0 true).ch0.hostQueue.length < 8 :=
  ⟨⟨by decide, by decide⟩,
    ⟨by decide, .inl ⟨31, 31, by decide, by decide, by decide, .inl ⟨by decide, by decide, by decide⟩⟩⟩,
    by decide, by decide, by decide⟩

theorem witness_PostPlacesItsTransaction_joined :
    Ready (posting (chained 3) 1 false) ∧
    postAsks (posting (chained 3) 1 false) 0 (.postRawWrite 0) ⟨.ch0, 0x2A, .rawWrite 31 31 0xABCD⟩ ∧
    (posting (chained 3) 1 false).ch0.chainOpen = true ∧
    (posting (chained 3) 1 false).ch0.hostQueue = [[rawRead 1 1]] ++ [List.replicate 3 (rawRead 9 17)] ∧
    (posting (chained 3) 1 false).argContinue = false ∧ (posting (chained 2) 1 true).argContinue = true ∧
    (List.replicate 2 (rawRead 9 17)).length < 3 :=
  ⟨⟨by decide, by decide⟩,
    ⟨by decide, .inl ⟨31, 31, by decide, by decide, by decide, .inr ⟨by decide, by decide, by decide⟩⟩⟩,
    by decide, by decide, by decide, by decide, by decide⟩

theorem witness_PostPlacesItsTransaction_item :
    Ready (posting active 2 false) ∧
    postAsks (posting active 2 false) 0 (.postItemRead 0) ⟨.ch0, 0x2A, .itemRead 5 .count 1⟩ :=
  ⟨⟨by decide, by decide⟩, ⟨by decide, .inr ⟨5, .count, bnd, prof, by decide, by decide, by decide, by decide, by decide,
    by decide, by decide, by decide, by decide⟩⟩⟩

theorem witness_RefusedPost_arguments :
    Ready (withArgs active 0 0 0 0 0x0300 0) ∧ (withArgs active 0 0 0 0 0x0300 0).argKind = 3 ∧
    1 < (withArgs active 0x0200 0 0 0 0 0).argChannel ∧ (withArgs active 0x0200 0 0 0 0 0).argKind = 0 ∧
    31 < (withArgs active 0 0x0020 0 0 0x0100 0).argDevice ∧ (withArgs active 0 0x0020 0 0 0x0100 0).argKind = 1 ∧
    31 < (withArgs active 0 0x2000 0 0 0 0).argRegister ∧
    (withArgs active 24 0 0 0 0x7200 0).argKind = 2 ∧ 23 < (withArgs active 24 0 0 0 0x7200 0).argTarget ∧
    7 < (withArgs active 5 0 0 0 0x8200 0).argItem ∧
    ((withArgs active 23 0 0 0 0x7200 0).argTarget = (23 : PortId).val ∧
      (withArgs active 23 0 0 0 0x7200 0).argItem = Item.count.index ∧
      ((withArgs active 23 0 0 0 0x7200 0).port 23).binding = none) ∧
    ((withArgs active 5 0 0 0 0x2200 0).argItem = Item.speed.index ∧
      ((withArgs active 5 0 0 0 0x2200 0).port 5).binding = some bnd ∧
      (withArgs active 5 0 0 0 0x2200 0).profile bnd.profile = some prof ∧ prof.recipes.get .speed = none) :=
  ⟨⟨rfl, rfl⟩, by decide⟩

theorem witness_RefusedPost_room :
    postAsks (posting (chained 3) 0 true) 0 (.postRawRead 0) ⟨.ch0, 0x2A, .rawRead 31 31⟩ ∧
    ((posting (chained 3) 0 true).ch0.chainOpen = true ∧ (posting (chained 3) 0 true).argContinue = true ∧
      3 ≤ (posting (chained 3) 0 true).ch0.tailMembers) ∧
    ((posting (queued (List.replicate 8 [rawRead 1 1]) 1) 0 false).ch0.chainOpen = false ∧
      8 ≤ (posting (queued (List.replicate 8 [rawRead 1 1]) 1) 0 false).ch0.hostQueue.length) ∧
    (16 ≤ ({ chained 2 with ht := { HostTable.reset with outstanding := 16 } }).ht.outstanding ∧
      (chained 2).ch0.tailMembers < 3) :=
  ⟨⟨by decide, .inl ⟨31, 31, by decide, by decide, by decide, .inl ⟨by decide, by decide, by decide⟩⟩⟩, by decide,
    by decide, by decide⟩

/-- One completion record waiting. -/
def recorded : State :=
  { State.reset with ht := { HostTable.reset with completions := [⟨rawRead 9 17, .ok, some 0xCAFE⟩], outstanding := 1 } }

/-- Figure 10-5: 39H: channel 0, device 9, register 17. -/
theorem test_take_completion : (after (.takeCompletion 0) recorded).readWord 0x39 = 0x0452#16 ∧
    (after (.takeCompletion 0) recorded).readWord 0x3A = 0xCAFE#16 := by decide

theorem witness_TakeCompletionHandsOverTheOldest : Ready recorded ∧ Ready State.reset ∧
    recorded.ht.completions = ⟨rawRead 9 17, .ok, some 0xCAFE⟩ :: [] ∧ State.reset.ht.completions = [] ∧
    (rawRead 9 17).op = .rawRead 9 17 ∧ (HostTxn.mk .ch0 8 (.rawWrite 9 17 1)).op = .rawWrite 9 17 1 ∧
    itemRun.txn.op = .itemRead 5 .count 1 :=
  ⟨⟨rfl, rfl⟩, ⟨rfl, rfl⟩, by decide⟩

/-! #### Event Queue and Notification -/

theorem witness_PopEventHandsOverTheOldest : Ready burst ∧ Ready State.reset ∧ burst.ev.queue = eventA :: [] ∧
    State.reset.ev.queue = [] ∧ ([] : List EventRec).length ≤ 63 ∧ eventA.repeats ≤ 255 ∧
    eventA.body = .itemChange 5 .link (some (.flag true)) (some (.flag false)) .scan :=
  ⟨⟨rfl, rfl⟩, ⟨rfl, rfl⟩, by decide⟩

/-- A part whose one event record has a body. -/
def posting1 (b : EventBody) : State := State.reset.post b

theorem witness_PopEventHandsOverTheOldest_kinds :
    (posting1 (.stateChange 23 .active .lost (some .misses))).ev.queue =
      ⟨.stateChange 23 .active .lost (some .misses), 1, 0, 0⟩ :: [] ∧
    (posting1 (.channelFault .ch1)).ev.queue = ⟨.channelFault .ch1, 1, 0, 0⟩ :: [] := by decide

/-- Figure 10-5: a STATE_CHANGE of port 23 from ACTIVE 2 to LOST 3 with MISSES 7, and a CHANNEL_FAULT of channel 1. -/
theorem test_pop_event_kinds :
    (after (.popEvent 0) (posting1 (.stateChange 23 .active .lost (some .misses)))).readWord 0x30 = 0x9017#16 ∧
    (after (.popEvent 0) (posting1 (.stateChange 23 .active .lost (some .misses)))).readWord 0x32 = 3#16 ∧
    (after (.popEvent 0) (posting1 (.stateChange 23 .active .lost (some .misses)))).readWord 0x33 = 0x011F#16 ∧
    (after (.popEvent 0) (posting1 (.channelFault .ch1))).readWord 0x31 = 1#16 := by decide

/-- A queue of 64 records with different keys. -/
def fullQueue : State :=
  { active with ev := { EventBlock.reset with
      timer := .expired
      queue := (allPorts.take 8).flatMap fun p => Item.all.map fun i => ⟨.itemChange p i none none .scan, 255, 0, 0⟩ } }

theorem witness_PostedEventIsFoldedStoredOrRefused :
    (∃ r ∈ burst.ev.queue, r.body.key = (EventBody.itemChange 5 .link none none .host).key) ∧
    (∃ r ∈ fullQueue.ev.queue, r.body.key = (EventBody.itemChange 7 .count none none .host).key ∧ r.repeats = 255) ∧
    (∀ r ∈ burst.ev.queue, r.body.key ≠ (EventBody.stateChange 5 .active .lost none).key) ∧ burst.ev.queue.length < 64 ∧
    (∀ r ∈ fullQueue.ev.queue, r.body.key ≠ (EventBody.stateChange 5 .active .lost none).key) ∧
    (∀ r ∈ fullQueue.ev.queue, r.body.key ≠ (EventBody.channelFault .ch1).key) ∧ 64 ≤ fullQueue.ev.queue.length ∧
    (EventBody.stateChange 5 .active .lost none).port? = some 5 ∧ (EventBody.channelFault .ch1).port? = none := by decide

theorem witness_CausesEnablesAndIrqn : State.reset.rstnLow = false ∧ Ready burst ∧ (0 : Word).toNat = 0 ∧
    1 ≤ (1 : Word).toNat ∧ (64 : Word).toNat ≤ 64 ∧ 64 < (65 : Word).toNat ∧ burstDue.ev.timer = .running 0 ∧
    burst.ev.timer ≠ .running 0 := ⟨rfl, ⟨rfl, rfl⟩, by decide⟩

/-! #### Indicator Engine -/

theorem witness_IndicatorGroupWrites :
    Ready State.reset ∧ (47 : Word).toNat = (47 : IndicatorId).val ∧ 47 < (48 : Word).toNat ∧
    (bits 0x017B 0 4 = Condition.eventsPending.code ∧ bits 0x017B 4 5 = (23 : PortId).val) ∧ 11 < bits 0x000C 0 4 ∧
    23 < bits 0x0180 4 5 ∧ (bit 0x01FB 2 = false ∧ bits 0x01FB 0 2 = SpeedCode.s2500.code) ∧ bit 0x0004 2 = true ∧
    (bits 0x1D1D 0 3 = PatternKind.onFlashOff.code ∧ bits 0x1D1D 3 2 = (3 : Fin 4).val ∧
      bits 0x1D1D 8 3 = PatternKind.onFlashOff.code ∧ bits 0x1D1D 11 2 = (3 : Fin 4).val) ∧
    5 < bits 0x0006 0 3 ∧ 5 < bits 0x0700 8 3 ∧ (48 : Word).toNat ∈ [8, 16, 24, 32, 40, 48] ∧
    (56 : Word).toNat ∉ [8, 16, 24, 32, 40, 48] ∧ 1 ≤ (1 : Word).toNat ∧ (25 : Word).toNat ≤ 25 ∧ (0 : Word).toNat = 0 ∧
    25 < (26 : Word).toNat := ⟨⟨rfl, rfl⟩, by decide⟩

theorem witness_OverridesAreSetAndRemoved :
    Ready (withArgs State.reset 48 0 0 0 0 0) ∧ 47 < (withArgs State.reset 48 0 0 0 0 0).argTarget ∧
    5 < (withArgs State.reset 47 0 0 6 0 0).argPattern ∧
    (withArgs State.reset 47 0 0 5 0 0).argTarget = (47 : IndicatorId).val ∧
    (withArgs State.reset 47 0 0 5 0 0).argPattern = PatternKind.onFlashOff.code ∧
    State.reset.ie.records[(47 : IndicatorId)].override = none ∧
    overrideDue.ie.records[(0 : IndicatorId)].override = some ⟨⟨.on, 0⟩, some 0⟩ ∧
    overrideDue.ie.records[(0 : IndicatorId)].override ≠ none := ⟨⟨rfl, rfl⟩, by decide⟩

theorem witness_RateSlotsDeferRestartAndToggle :
    Ready (withArgs State.reset 4 0 1 0 0 0) ∧ 3 < (withArgs State.reset 4 0 1 0 0 0).argTarget ∧
    ((withArgs State.reset 3 0 0 0 0 0).arg 2).toNat = 0 ∧ 255 < ((withArgs State.reset 3 0 256 0 0 0).arg 2).toNat ∧
    1 < (withArgs State.reset 3 0 1 0 0 0x2000).argMode ∧ (withArgs State.reset 3 0 1 0 0 0).argTarget = (3 : Fin 4).val ∧
    1 ≤ ((withArgs State.reset 3 0 1 0 0 0).arg 2).toNat ∧ ((withArgs State.reset 3 0 255 0 0 0).arg 2).toNat ≤ 255 ∧
    (withArgs State.reset 3 0 1 0 0 0).argMode = 0 ∧ (withArgs State.reset 3 0 1 0 0 0x1000).argMode = 1 ∧
    State.reset.ie.slots[(3 : Fin 4)].timer ≠ 0 ∧ rateDue.ie.slots[(1 : Fin 4)].timer = 0 := ⟨⟨rfl, rfl⟩, by decide⟩

/-- Port 11's flash machine in a state. -/
def flashing (m : FlashMachine) : State := { State.reset with ie := State.reset.ie.modFlash 11 fun _ => m }

theorem witness_RefreshFixesTheLevels :
    State.reset.rstnLow = false ∧ State.reset.ie.refreshDue = false ∧ refreshDue.ie.refreshDue = true ∧
    (7 : IndicatorId).val < refreshDue.ie.chainLength ∧ (flashing ⟨.pulse, 1, false⟩).ie.flash[(11 : PortId)].timer ≠ 0 ∧
    State.reset.ie.flash[(11 : PortId)].phase = .idle ∧
    ((flashing ⟨.pulse, 0, false⟩).ie.flash[(11 : PortId)].phase = .pulse ∧
      (flashing ⟨.pulse, 0, false⟩).ie.flash[(11 : PortId)].timer = 0) ∧
    (gapDue.ie.flash[(11 : PortId)].phase = .gap ∧ gapDue.ie.flash[(11 : PortId)].timer = 0 ∧
      gapDue.ie.flash[(11 : PortId)].pending = true) ∧
    ((flashing ⟨.gap, 0, false⟩).ie.flash[(11 : PortId)].phase = .gap ∧
      (flashing ⟨.gap, 0, false⟩).ie.flash[(11 : PortId)].pending = false) := by decide

/-- R159, Figure 10-6: the set {LOST, FAILED} (bits 5 and 7 of 62H) holds for a LOST port and not for an ACTIVE one. -/
theorem test_port_state_in :
    let r : IndicatorRec := { IndicatorRec.reset with condition := .portStateIn, port := 5 }
    (sup .lost).judged { r with states := ⟨false, false, true, false, true⟩ } = true ∧
    (sup .active).judged { r with states := ⟨false, false, true, false, true⟩ } = false ∧
    State.reset.judged { r with states := ⟨true, true, true, true, true⟩ } = false := by decide

/-! #### Laws that every step keeps -/

theorem witness_EveryStepKeepsTheEventLaw :
    EventLaw ({ burst with pending := [.popEvent 0] }).ev ∧
    step { burst with pending := [.popEvent 0] } = .next (after (.popEvent 0) burst) :=
  ⟨⟨by decide, by decide, by decide, by decide, by decide⟩, rfl⟩

theorem witness_EveryStepKeepsTheCreditLaw :
    CreditLaw { hostBusy (some 7) with pending := [.frameEnd .ch0 false 1] } ∧
    step { hostBusy (some 7) with pending := [.frameEnd .ch0 false 1] } =
      .next (after (.frameEnd .ch0 false 1) (hostBusy (some 7))) :=
  ⟨⟨by decide, by decide, ⟨by decide, by decide, by decide, by decide⟩, ⟨by decide, by decide, by decide, by decide⟩⟩,
    rfl⟩

/-- Channel 0 with a frame of a regular scan of ACTIVE port 5 on the lines, and the frame's end waiting. -/
def scanning : State :=
  { onCh0 (idle0 active) (fun c => { c.runJob (job .regular false) with
      frame := some ⟨⟨3, 1, .read⟩, true, some 7⟩ }) with pending := [.frameEnd .ch0 false 0x0024] }

/-- The laws of `scanning`'s Port Table. -/
theorem scanning_ports : PortLaw scanning.pt where
  records := fun p =>
    { bound := by revert p; decide
      down := by revert p; decide
      fault := by revert p; decide
      partner := by revert p; decide
      domain :=
        { link := by revert p; decide
          neg := by revert p; decide
          speed := by revert p; decide
          duplex := by revert p; decide
          rfault := by revert p; decide
          partner := by revert p; decide
          energy := by revert p; decide
          count := by revert p; decide }
      retry := by revert p; decide
      lost := by revert p; decide
      unbound := by revert p; decide }
  limits := ⟨by decide, by decide, by decide, by decide, by decide⟩
  unique := by unfold UniqueLaw; decide

/-- The laws of `scanning`'s channels. -/
theorem scanning_channels : ChannelsLaw scanning where
  ch0 := ⟨by decide, by decide, by decide, by decide, by decide,
    ⟨by decide, by decide, by decide, by decide, by decide⟩, by decide, by decide⟩
  ch1 := ⟨by decide, by decide, by decide, by decide, by decide,
    ⟨by decide, by decide, by decide, by decide, by decide⟩, by decide, by decide⟩
  timed := ⟨by decide, by decide, by decide⟩

/-- `scanning` meets every law of the part. -/
theorem scanning_lawful : Lawful scanning where
  ports := scanning_ports
  queue0 := ⟨by decide, by decide, by decide, by decide⟩
  queue1 := ⟨by decide, by decide, by decide, by decide⟩
  channels := scanning_channels
  profiles := ⟨by decide, by decide⟩
  staging := ⟨by decide, by intro i; cases i <;> decide, by decide⟩
  job0 := ⟨fun _ => by decide, by decide⟩
  job1 := trivial
  work := ⟨fun _ p => by unfold oneWork; revert p; decide, fun _ p => by unfold oneWork; revert p; decide⟩
  credit := ⟨by decide, by decide, ⟨by decide, by decide, by decide, by decide⟩,
    ⟨by decide, by decide, by decide, by decide⟩⟩
  events := ⟨by decide, by decide, by decide, by decide, by decide⟩
  engine := ⟨by decide, by decide, by decide, by decide, by decide⟩

theorem scanning_steps :
    step scanning = .next (after (.frameEnd .ch0 false 0x0024) { scanning with pending := [] }) := rfl

theorem witness_EveryStepKeepsThePortLaw : PortLaw scanning.pt ∧
    step scanning = .next (after (.frameEnd .ch0 false 0x0024) { scanning with pending := [] }) :=
  ⟨scanning_ports, scanning_steps⟩

theorem witness_EveryStepKeepsTheChannelsLaw : ChannelsLaw scanning ∧
    step scanning = .next (after (.frameEnd .ch0 false 0x0024) { scanning with pending := [] }) :=
  ⟨scanning_channels, scanning_steps⟩

theorem witness_EveryStepKeepsThePartLawful : Lawful scanning ∧
    step scanning = .next (after (.frameEnd .ch0 false 0x0024) { scanning with pending := [] }) :=
  ⟨scanning_lawful, scanning_steps⟩

theorem witness_ViewsChangeOnlyByTheirCommands :
    (Instr.popEvent 0).wellFormed = true ∧ isReset (.popEvent 0) = false ∧ isSoftReset (.popEvent 0) = false ∧
    burst.cu.softResetting = false ∧ isSnapshot (.popEvent 0) = false ∧ isTake (.popEvent 0) = false ∧
    isPop (.snapshot 0) = false ∧ exec (.popEvent 0) burst = .next (after (.popEvent 0) burst) :=
  ⟨by decide, by decide, by decide, by decide, by decide, by decide, by decide, rfl⟩

theorem witness_BoundPortKeepsItsBindingAndProfile :
    exec (.suspend 0) (named5 .active) = .next (after (.suspend 0) (named5 .active)) ∧
    ((named5 .active).port 5).bound = true ∧ ((after (.suspend 0) (named5 .active)).port 5).bound = true ∧
    ((named5 .active).port 5).binding = some bnd := ⟨rfl, by decide, by decide, by decide⟩

end Sys2Proof.Tests
end

section
/-! PROOFS. ACK (R22): the port its arguments name, what it does to that port's record, and the whole next state. -/
namespace Sys2Proof.Laws

open Sys2Proof.Machine Sys2Proof.Safety

/-! ### The port that the arguments name -/

/-- R188: a port number above 23 is refused with BAD_ARG and the owner leaves the state as it is. -/
theorem onNamedPort_of_gt {s : State} {f : PortId → State × Answer} (h : 23 < s.argTarget) :
    s.onNamedPort f = (s, .badArg 0) := by
  simp [State.onNamedPort, finOf_eq_none (Nat.succ_le_of_lt h)]

/-- R1: a port number up to 23 names its port. -/
theorem onNamedPort_of_eq {s : State} {f : PortId → State × Answer} {p : PortId} (h : s.argTarget = p.val) :
    s.onNamedPort f = f p := by
  simp [State.onNamedPort, h]

/-- R45: a port is bound in every state but UNBOUND. -/
theorem bound_eq_false_iff (r : PortRec) : r.bound = false ↔ r.state = .unbound := by
  simp [PortRec.bound]

/-! ### What ACK does to a record -/

/-- R22: the changed flag of an item is kept exactly when the item is not named. -/
@[simp] theorem get_clearNamed (changed : PerItem Bool) (names : Item → Bool) (i : Item) :
    (clearNamed changed names).get i = (changed.get i && !names i) := by
  cases i <;> rfl

/-- R22: a flag that ACK clears when its item is named and stands at its good value, as the rule words it. -/
theorem and_not_and_decide (flag named : Bool) (good : Prop) [Decidable good] :
    (flag && !(named && decide good)) = if named = true ∧ good then false else flag := by
  cases named <;> by_cases h : good <;> simp [h]

/-- R22: every field of the record after an ACK. -/
theorem ack_eq (r : PortRec) (names : Item → Bool) (clearCount : Bool) :
    r.ack names clearCount =
      { r with
        changed := clearNamed r.changed names
        stickyDown := if names .link = true ∧ r.mirror.link = some (.flag true) then false else r.stickyDown
        stickyFault := if names .rfault = true ∧ r.mirror.rfault = some (.flag false) then false else r.stickyFault
        accumulator := if clearCount then 0 else r.accumulator
        saturated := if clearCount then false else r.saturated } := by
  have count : (r.saturated && !clearCount) = if clearCount then false else r.saturated := by
    cases clearCount <;> simp
  simp only [PortRec.ack, and_not_and_decide, count]

/-! ### How the Port Table takes ACK -/

/-- R22: ACK of a port number above 23. -/
theorem takeAck_of_gt {s : State} (h : 23 < s.argTarget) : takeAck s = (s, .badArg 0) :=
  onNamedPort_of_gt h

/-- R22: ACK of an UNBOUND port. -/
theorem takeAck_of_unbound {s : State} {p : PortId} (h : s.argTarget = p.val) (hp : (s.port p).state = .unbound) :
    takeAck s = (s, .refuse .badState) := by
  simp [takeAck, onNamedPort_of_eq h, (bound_eq_false_iff _).2 hp]

/-- R22: ACK of a port in any other state. -/
theorem takeAck_of_bound {s : State} {p : PortId} (h : s.argTarget = p.val) (hp : (s.port p).state ≠ .unbound) :
    takeAck s = (s.setPort p ((s.port p).ack s.argNames s.argClearCount), .done) := by
  have hb : (s.port p).bound = true := by
    rw [← Bool.not_eq_false, bound_eq_false_iff]
    exact hp
  simp [takeAck, onNamedPort_of_eq h, hb, State.modPort]

/-- R183, R22: on a part that takes commands, ACK is delivered to the Port Table and its answer shown. -/
theorem exec_ack_ready {hi : BitVec 8} {s : State} (h : Ready s) :
    exec (.ack hi) s =
      .next ((takeAck (delivered s hi 6)).1.showResult 6 (takeAck (delivered s hi 6)).2) := by
  have row : exec (.ack hi) s = s.live fun s => s.command hi 6 takeAck := rfl
  rw [row, live_of_running h.rstn, command_ready h]

/-- Settles O15: the three ways the Port Table takes ACK, each with its answer shown. -/
theorem ackAcknowledgesWhatItNames : Obligations.AckAcknowledgesWhatItNames := by
  intro hi s ready
  rw [exec_ack_ready ready]
  refine ⟨fun above => ?_, fun p named => ⟨fun unbound => ?_, fun bound => ?_⟩⟩
  · rw [takeAck_of_gt (s := delivered s hi 6) above]
    rfl
  · rw [takeAck_of_unbound (s := delivered s hi 6) named unbound]
    rfl
  · refine ⟨clearNamed (s.port p).changed s.argNames, get_clearNamed _ _, ?_⟩
    rw [takeAck_of_bound (s := delivered s hi 6) named bound, ack_eq]
    rfl

end Sys2Proof.Laws
end

section
/-! PROOFS. SET_SCAN_ENTRY and SET_SCAN_LENGTH (R70, R71): what they write, and the passes that start from the scan list
and the length in force, at an expiry of the pass-interval timer and at the end of a walk. -/
namespace Sys2Proof.Laws

open Sys2Proof.Machine Sys2Proof.Safety

/-! ### How a Scan Scheduler takes SET_SCAN_ENTRY and SET_SCAN_LENGTH -/

/-- R70: a channel, an index or a port out of its range. -/
theorem takeSetScanEntry_of_out_of_range {s : State} (h : 1 < s.argChannel ∨ 31 < s.argIndex ∨ 23 < s.argTarget) :
    takeSetScanEntry s = (s, .badArg 0) := by
  obtain hc | hi | hp := h
  · simp [takeSetScanEntry, chanOf_eq_none hc]
  · simp [takeSetScanEntry, finOf_eq_none (Nat.succ_le_of_lt hi)]
  · simp [takeSetScanEntry, finOf_eq_none (Nat.succ_le_of_lt hp)]

/-- R70: the entry at the index takes the port number. -/
theorem takeSetScanEntry_of_named {s : State} {ch : Chan} {i : Fin 32} {p : PortId}
    (hc : s.argChannel = chanNumber ch) (hi : s.argIndex = i.val) (hp : s.argTarget = p.val) :
    takeSetScanEntry s = (s.modSched ch fun c => { c with scanList := c.scanList.set i p }, .done) := by
  simp [takeSetScanEntry, hc, hi, hp]

/-- R71: a channel or a length out of its range. -/
theorem takeSetScanLength_of_out_of_range {s : State} (h : 1 < s.argChannel ∨ 32 < s.argIndex) :
    takeSetScanLength s = (s, .badArg 0) := by
  obtain hc | hi := h
  · simp [takeSetScanLength, chanOf_eq_none hc]
  · cases hc : chanOf s.argChannel <;> simp [takeSetScanLength, hc, Nat.not_le_of_lt hi]

/-- R71: the length becomes the number given. -/
theorem takeSetScanLength_of_named {s : State} {ch : Chan} (hc : s.argChannel = chanNumber ch) (hi : s.argIndex ≤ 32) :
    takeSetScanLength s = (s.modSched ch fun c => { c with scanLength := s.argIndex }, .done) := by
  simp [takeSetScanLength, hc, hi]

/-- R183, R70: on a part that takes commands, SET_SCAN_ENTRY is delivered and its answer shown. -/
theorem exec_setScanEntry_ready {hi : BitVec 8} {s : State} (h : Ready s) :
    exec (.setScanEntry hi) s =
      .next ((takeSetScanEntry (delivered s hi 8)).1.showResult 8 (takeSetScanEntry (delivered s hi 8)).2) := by
  have row : exec (.setScanEntry hi) s = s.live fun s => s.command hi 8 takeSetScanEntry := rfl
  rw [row, live_of_running h.rstn, command_ready h]

/-- R183, R71: on a part that takes commands, SET_SCAN_LENGTH is delivered and its answer shown. -/
theorem exec_setScanLength_ready {hi : BitVec 8} {s : State} (h : Ready s) :
    exec (.setScanLength hi) s =
      .next ((takeSetScanLength (delivered s hi 9)).1.showResult 9 (takeSetScanLength (delivered s hi 9)).2) := by
  have row : exec (.setScanLength hi) s = s.live fun s => s.command hi 9 takeSetScanLength := rfl
  rw [row, live_of_running h.rstn, command_ready h]

/-- R183: a command that changes one scheduler and completes with DONE changes that channel and what the Command Unit
shows, nothing else. -/
theorem modSched_delivered_showResult (s : State) (hi code : BitVec 8) (ch : Chan) (f : Scheduler → Scheduler) :
    ((delivered s hi code).modSched ch f).showResult code .done =
      State.setChan { s with cu := shown s.cu hi code .done 0 none } ch
        { s.chan ch with sched := f (s.chan ch).sched } := by
  cases ch <;> rfl

/-! ### The pass that an expiry starts -/

/-- With RSTN high a pass-interval expiry acts on its channel. -/
theorem exec_passIntervalExpiry {s : State} {ch : Chan} (h : s.rstnLow = false) :
    exec (.passIntervalExpiry ch) s = .next (s.passIntervalExpiry ch) := by
  have row : exec (.passIntervalExpiry ch) s = s.live fun s => s.passIntervalExpiry ch := rfl
  rw [row, live_of_running h]

/-- R72: with no pass open, a HALTED channel or a length of 0 only starts the timer again. -/
theorem passIntervalExpiry_restarts {s : State} {ch : Chan} (due : (s.chan ch).sched.passTimer = .running 0)
    (closed : (s.chan ch).sched.pass = none) (h : (s.chan ch).state = .halted ∨ (s.chan ch).sched.scanLength = 0) :
    s.passIntervalExpiry ch = s.modSched ch Scheduler.startTimer := by
  simp [State.passIntervalExpiry, due, closed, h]

/-- R72, R73: with no pass open, a channel that is not HALTED and a length above 0 start a pass, and the arbiter takes
notice. -/
theorem passIntervalExpiry_starts {s : State} {ch : Chan} (due : (s.chan ch).sched.passTimer = .running 0)
    (closed : (s.chan ch).sched.pass = none) (running : (s.chan ch).state ≠ .halted)
    (some_entry : (s.chan ch).sched.scanLength ≠ 0) :
    s.passIntervalExpiry ch = (s.modSched ch Scheduler.startPass).notice ch := by
  simp [State.passIntervalExpiry, due, closed, running, some_entry]

/-! ### The pass that the end of a walk starts -/

/-- R81: ports added to the urgent queue one after another change that queue alone. -/
theorem foldl_pushUrgent (c : Scheduler) (ports : List PortId) :
    ports.foldl Scheduler.pushUrgent c = { c with urgent := addedOnce c.urgent ports } := by
  induction ports generalizing c with
  | nil => rfl
  | cons p ports ih =>
    rw [List.foldl_cons, ih]
    by_cases h : p ∈ c.urgent <;> simp [Scheduler.pushUrgent, addedOnce, h]

/-- R74: a walk over entries none of which is eligible passes them all. -/
theorem walkFrom_of_no_entry {s : State} {ch : Chan} {l : List PortId} (n : Nat)
    (h : ∀ p ∈ l, (s.port p).activeOn ch = false) : s.walkFrom ch l n = (n + l.length, none) := by
  induction l generalizing n with
  | nil => rfl
  | cons p l ih =>
    have rest := ih (n + 1) fun q hq => h q (List.mem_cons_of_mem p hq)
    simp [State.walkFrom, h p List.mem_cons_self, rest, Nat.add_assoc, Nat.add_comm 1]

/-- `d` is `c` with its scan list and length as they were, and a pass open in `d` is one over the list in force. -/
structure StartedFrom (c d : Scheduler) : Prop where
  list : d.scanList = c.scanList
  length : d.scanLength = c.scanLength
  pass : ∀ q, d.pass = some q → 0 < c.scanLength ∧ q.list = c.scanList.toList.take c.scanLength

theorem StartedFrom.trans {c d e : Scheduler} (a : StartedFrom c d) (b : StartedFrom d e) : StartedFrom c e where
  list := b.list.trans a.list
  length := b.length.trans a.length
  pass := by
    have open_pass := b.pass
    rwa [a.list, a.length] at open_pass

/-- R73, R75: the pass that the end of a walk opens, if it opens one, has the first entries to the length in force. -/
theorem startedFrom_endWalk (c : Scheduler) (adds : List PortId) : StartedFrom c (c.endWalk adds) := by
  unfold Scheduler.endWalk
  rw [foldl_pushUrgent]
  dsimp only
  split
  · split
    case isTrue filled =>
      refine ⟨rfl, rfl, ?_⟩
      rintro q ⟨⟩
      exact ⟨filled, rfl⟩
    case isFalse => exact ⟨rfl, rfl, nofun⟩
  · exact ⟨rfl, rfl, nofun⟩

/-- R74: a walk moves the position of its pass and keeps its list. -/
theorem StartedFrom.walk {c d : Scheduler} (h : StartedFrom c d) (s : State) (ch : Chan) :
    StartedFrom c (s.walk ch d).1 := by
  unfold State.walk
  split
  · exact h
  case h_2 q opened =>
    refine ⟨h.list, h.length, ?_⟩
    rintro q' ⟨⟩
    exact h.pass q opened

/-- R96 (d): the look after a pass end leaves the pass that this end opened, or one that a further end opened. -/
theorem StartedFrom.consultAgain {c d : Scheduler} (h : StartedFrom c d) (s : State) (ch : Chan) :
    StartedFrom c (s.consultAgain ch d).1 := by
  have walked := h.walk s ch
  unfold State.consultAgain
  split
  · exact h
  · split
    · exact h
    · split
      case h_1 found => rwa [found] at walked
      case h_2 found =>
        rw [found] at walked
        exact walked.trans (startedFrom_endWalk ..)

/-- R74, R75: a walk with no eligible entry left finds none, and its end is the end of the pass as it stood. -/
theorem walk_of_no_entry {s : State} {ch : Chan} {c : Scheduler} {q : Pass} (opened : c.pass = some q)
    (none_left : ∀ p ∈ q.list.drop q.position, (s.port p).activeOn ch = false) :
    ∃ d, s.walk ch c = (d, none) ∧ d.endWalk = c.endWalk := by
  simp only [State.walk, opened, walkFrom_of_no_entry _ none_left]
  exact ⟨_, rfl, rfl⟩

/-- R74, R75, R96 (d): with both queues empty and no eligible entry left, a consultation ends the walk and looks again. -/
theorem consult_of_no_entry {s : State} {ch : Chan} {q : Pass} (probes : (s.chan ch).sched.probes = [])
    (urgent : (s.chan ch).sched.urgent = []) (opened : (s.chan ch).sched.pass = some q)
    (none_left : ∀ p ∈ q.list.drop q.position, (s.port p).activeOn ch = false) :
    s.consult ch = s.consultAgain ch ((s.chan ch).sched.endWalk (s.passEndPorts ch)) := by
  obtain ⟨d, walked, same_end⟩ := walk_of_no_entry opened none_left
  simp only [State.consult, probes, urgent, opened, walked, same_end]

/-- The entries left of a pass, by their indices. -/
theorem exists_index_of_mem_drop {q : Pass} {p : PortId} (h : p ∈ q.list.drop q.position) :
    ∃ n, q.position ≤ n ∧ q.list[n]? = some p := by
  obtain ⟨n, hn⟩ := List.mem_iff_getElem?.1 h
  exact ⟨q.position + n, Nat.le_add_right .., by rwa [List.getElem?_drop] at hn⟩

/-- R73, R75: what a consultation that ends the walk leaves open is a pass over the list in force. -/
theorem startedFrom_consult {s : State} {ch : Chan} {q : Pass} (probes : (s.chan ch).sched.probes = [])
    (urgent : (s.chan ch).sched.urgent = []) (opened : (s.chan ch).sched.pass = some q)
    (none_left : ∀ (n : Nat) (p : PortId), q.position ≤ n → q.list[n]? = some p → (s.port p).activeOn ch = false) :
    StartedFrom (s.chan ch).sched (s.consult ch).1 := by
  have entries : ∀ p ∈ q.list.drop q.position, (s.port p).activeOn ch = false := fun p hp =>
    have ⟨n, after, at_n⟩ := exists_index_of_mem_drop hp
    none_left n p after at_n
  rw [consult_of_no_entry probes urgent opened entries]
  exact (startedFrom_endWalk ..).consultAgain s ch

/-! ### The rule -/

/-- R70: the refusals and the write of SET_SCAN_ENTRY, each with the whole next state. -/
theorem exec_setScanEntry_cases {hi : BitVec 8} {s : State} (ready : Ready s) :
    ((1 < s.argChannel ∨ 31 < s.argIndex ∨ 23 < s.argTarget) →
      exec (.setScanEntry hi) s = .next { s with cu := shown s.cu hi 8 .badArg 0 none }) ∧
    ∀ (ch : Chan) (i : Fin 32) (p : PortId),
      s.argChannel = chanNumber ch → s.argIndex = i.val → s.argTarget = p.val →
      exec (.setScanEntry hi) s = .next (State.setChan { s with cu := shown s.cu hi 8 .done 0 none } ch
        { s.chan ch with sched := { (s.chan ch).sched with scanList := (s.chan ch).sched.scanList.set i p } }) := by
  rw [exec_setScanEntry_ready ready]
  refine ⟨fun out => ?_, fun ch i p hc hi' hp => ?_⟩
  · rw [takeSetScanEntry_of_out_of_range (s := delivered s hi 8) out]
    rfl
  · rw [takeSetScanEntry_of_named (s := delivered s hi 8) hc hi' hp, modSched_delivered_showResult]

/-- R71: the refusals and the write of SET_SCAN_LENGTH, each with the whole next state. -/
theorem exec_setScanLength_cases {hi : BitVec 8} {s : State} (ready : Ready s) :
    ((1 < s.argChannel ∨ 32 < s.argIndex) →
      exec (.setScanLength hi) s = .next { s with cu := shown s.cu hi 9 .badArg 0 none }) ∧
    ∀ ch : Chan, s.argChannel = chanNumber ch → s.argIndex ≤ 32 →
      exec (.setScanLength hi) s = .next (State.setChan { s with cu := shown s.cu hi 9 .done 0 none } ch
        { s.chan ch with sched := { (s.chan ch).sched with scanLength := s.argIndex } }) := by
  rw [exec_setScanLength_ready ready]
  refine ⟨fun out => ?_, fun ch hc hn => ?_⟩
  · rw [takeSetScanLength_of_out_of_range (s := delivered s hi 9) out]
    rfl
  · rw [takeSetScanLength_of_named (s := delivered s hi 9) hc hn, modSched_delivered_showResult]
    rfl

/-- Settles O29: the writes change the list or the length alone; a pass that an expiry or the end of a walk starts is
over the list and the length in force (`StartedFrom`). -/
theorem scanListWritesWaitForTheNextPass : Obligations.ScanListWritesWaitForTheNextPass := by
  refine ⟨fun hi s ready => ?_, fun s ch => ⟨fun running due closed live => ⟨fun empty => ?_, fun filled => ?_⟩, ?_⟩⟩
  · obtain ⟨entry_refused, entry_written⟩ := exec_setScanEntry_cases (hi := hi) ready
    obtain ⟨length_refused, length_written⟩ := exec_setScanLength_cases (hi := hi) ready
    exact ⟨entry_refused, length_refused, fun ch named =>
      ⟨fun i p => entry_written ch i p named, length_written ch named⟩⟩
  · rw [exec_passIntervalExpiry running, passIntervalExpiry_restarts due closed (.inr empty)]
    rfl
  · rw [exec_passIntervalExpiry running, passIntervalExpiry_starts due closed live filled.ne']
    exact ⟨_, rfl, notice_decided ..⟩
  · intro q probes urgent opened none_left
    have left := startedFrom_consult probes urgent opened none_left
    refine ⟨fun q' opened' => (left.pass q' opened').2, fun empty => ?_⟩
    exact Option.eq_none_iff_forall_ne_some.2 fun q' opened' => (left.pass q' opened').1.ne' empty

end Sys2Proof.Laws
end

section
/-! PROOFS. What a fetch result does (R11 to R21): the record of its port in closed form (`fetched`), the events it posts,
and the activity arrival. -/
namespace Sys2Proof.Laws

open Sys2Proof.Machine Sys2Proof.Safety

/-! ### Rewriting one entry of a per-item value -/

@[simp] theorem set_get_eq {α : Type} (v : PerItem α) (i : Item) : v.set i (v.get i) = v := by
  cases i <;> rfl

theorem set_get_or (v : PerItem Bool) (i : Item) (b : Bool) :
    v.set i (v.get i || b) = if b = true then v.set i true else v := by
  cases b <;> simp

/-- Two values differ. -/
def differ (a b : Option ItemValue) : Bool := decide (a ≠ b)

@[simp] theorem differ_iff {a b : Option ItemValue} : differ a b = true ↔ a ≠ b := by simp [differ]

@[simp] theorem differ_self (a : Option ItemValue) : differ a a = false := by simp [differ]

/-! ### What one item takes from a fetch result -/

/-- R13: the value an item other than PARTNER has after a fetch: the live one when it is served. -/
def served (f : FetchResult) (i : Item) (old : Option ItemValue) : Option ItemValue :=
  match f.serves i with
  | some c => some (f.live i c)
  | none => old

/-- R7, R15, R16: the fetch serves the item and shows the bad value of its sticky flag. -/
def showsBad (f : FetchResult) (i : Item) : Bool :=
  match f.serves i with
  | some c => f.bad i c
  | none => false

/-- R14 to R16: the item's turn sets its changed flag and posts its event. -/
def itemChanges (f : FetchResult) (r : PortRec) (i : Item) : Bool :=
  differ (r.mirror.get i) (served f i (r.mirror.get i)) ||
    (showsBad f i && !r.sticky i && (decide (i = .link) || decide (i = .rfault)))

/-- R13, R18: PARTNER after a fetch that leaves NEG at `neg`: absent when NEG is observed false, its live value when it is
served under NEG true. -/
def partnerAfter (f : FetchResult) (neg old : Option ItemValue) : Option ItemValue :=
  if f.negFalse then none else if neg = some (.flag true) then served f .partner old else old

/-- R17: the readings of COUNT in a fetch that serves it. -/
def countReadings (f : FetchResult) : Option (Nat × Option Nat) :=
  (f.serves .count).map fun c => (c.field f.first, f.second.map c.field)

/-- R17: a reading of COUNT is 65535. -/
def countFull (f : FetchResult) : Bool :=
  match countReadings f with
  | some (n, m) => decide (n = 65535) || decide (m = some 65535)
  | none => false

/-- R17: COUNT after a fetch: its last reading. -/
def countAfter (f : FetchResult) (old : Option ItemValue) : Option ItemValue :=
  match countReadings f with
  | some (n, m) => some (.word (BitVec.ofNat 16 (m.getD n)))
  | none => old

/-- R8, R17: the accumulator after a fetch. -/
def accumulated (f : FetchResult) (acc : BitVec 32) : BitVec 32 :=
  match countReadings f with
  | some (n, m) => satAdd acc (n + m.getD 0)
  | none => acc

/-- R11 to R18: the record after a fetch result, but for RESYNC. -/
def fetched (f : FetchResult) (r : PortRec) : PortRec :=
  { r with
    mirror :=
      { link := served f .link r.mirror.link
        neg := served f .neg r.mirror.neg
        speed := served f .speed r.mirror.speed
        duplex := served f .duplex r.mirror.duplex
        rfault := served f .rfault r.mirror.rfault
        partner := partnerAfter f (served f .neg r.mirror.neg) r.mirror.partner
        energy := served f .energy r.mirror.energy
        count := countAfter f r.mirror.count }
    changed :=
      { link := r.changed.link || itemChanges f r .link
        neg := r.changed.neg || itemChanges f r .neg
        speed := r.changed.speed || itemChanges f r .speed
        duplex := r.changed.duplex || itemChanges f r .duplex
        rfault := r.changed.rfault || itemChanges f r .rfault
        partner := r.changed.partner || differ r.mirror.partner (partnerAfter f (served f .neg r.mirror.neg) r.mirror.partner)
        energy := r.changed.energy || itemChanges f r .energy
        count := r.changed.count || (countFull f && !r.saturated) }
    stickyDown := r.stickyDown || showsBad f .link
    stickyFault := r.stickyFault || showsBad f .rfault
    accumulator := accumulated f r.accumulator
    saturated := r.saturated || countFull f }

/-! ### The rules of one served item -/

theorem served_of_some {f : FetchResult} {i : Item} {c : Recipe} (h : f.serves i = some c) (old : Option ItemValue) :
    served f i old = some (f.live i c) := by simp [served, h]

theorem served_of_none {f : FetchResult} {i : Item} (h : f.serves i = none) (old : Option ItemValue) :
    served f i old = old := by simp [served, h]

theorem showsBad_of_some {f : FetchResult} {i : Item} {c : Recipe} (h : f.serves i = some c) :
    showsBad f i = f.bad i c := by simp [showsBad, h]

theorem itemChanges_of_some {f : FetchResult} {i : Item} {c : Recipe} (h : f.serves i = some c) (r : PortRec) :
    itemChanges f r i = true ↔
      r.mirror.get i ≠ some (f.live i c) ∨ (f.bad i c = true ∧ r.sticky i = false ∧ (i = .link ∨ i = .rfault)) := by
  simp [itemChanges, served_of_some h, showsBad_of_some h, and_assoc]

theorem showsBad_of_none {f : FetchResult} {i : Item} (h : f.serves i = none) : showsBad f i = false := by
  simp [showsBad, h]

/-- R13: which recipe serves an item. -/
theorem serves_eq_some_iff {f : FetchResult} {i : Item} {c : Recipe} :
    f.serves i = some c ↔ f.profile.recipes.get i = some c ∧ c.loc = f.loc := by
  unfold FetchResult.serves
  cases h : f.profile.recipes.get i with
  | none => simp
  | some d =>
    by_cases hd : d.loc = f.loc
    · simp only [hd, if_true, Option.some.injEq]
      exact ⟨fun e => e ▸ ⟨rfl, hd⟩, fun e => e.1⟩
    · simp only [hd, if_false, reduceCtorEq, Option.some.injEq, false_iff, not_and]
      rintro rfl
      exact hd

/-- R4: a field of a 16-bit word is a 16-bit number. -/
theorem field_lt (c : Recipe) (w : Word) : c.field w < 65536 := by
  have low : w.toNat / 2 ^ c.low < 65536 := Nat.lt_of_le_of_lt (Nat.div_le_self ..) w.isLt
  exact Nat.lt_of_le_of_lt (Nat.mod_le ..) low

/-! ### One item's turn, on a part whose record stands at `r` -/

/-- The record after the turn of an item other than PARTNER and COUNT. -/
def itemSeen (f : FetchResult) (i : Item) (r : PortRec) : PortRec :=
  { r with
    mirror := r.mirror.set i (served f i (r.mirror.get i))
    changed := r.changed.set i (r.changed.get i || itemChanges f r i)
    stickyDown := r.stickyDown || (decide (i = .link) && showsBad f i)
    stickyFault := r.stickyFault || (decide (i = .rfault) && showsBad f i) }

/-- The event of the turn of an item other than PARTNER and COUNT. -/
def itemEvent (f : FetchResult) (i : Item) (r : PortRec) : List EventBody :=
  if itemChanges f r i then [.itemChange f.port i (r.mirror.get i) (served f i (r.mirror.get i)) f.cause] else []

/-- R14 to R16: the turn of an item other than PARTNER and COUNT. -/
theorem applyItem_onRecord {f : FetchResult} {i : Item} (hp : i ≠ .partner) (hc : i ≠ .count) (s : State) (r : PortRec)
    (l : List EventBody) :
    State.applyItem f (onRecord s f.port r l) i = onRecord s f.port (itemSeen f i r) (l ++ itemEvent f i r) := by
  have turn : State.applyItem f (onRecord s f.port r l) i = match f.serves i with
      | some c => (onRecord s f.port r l).setItem f.port i (some (f.live i c)) (f.bad i c) f.cause
      | none => onRecord s f.port r l := by
    cases i <;> first | rfl | contradiction
  rw [turn]
  cases h : f.serves i with
  | none => simp [itemSeen, itemEvent, itemChanges, served_of_none h, showsBad_of_none h]
  | some c =>
    dsimp only
    rw [onRecord_setItem]
    have changes := itemChanges_of_some h r
    simp only [itemSeen, itemEvent, served_of_some h, showsBad_of_some h, set_get_or, changes]
    have sticky : (if f.bad i c = true then r.setSticky i else r) =
        { r with
          stickyDown := r.stickyDown || (decide (i = .link) && f.bad i c)
          stickyFault := r.stickyFault || (decide (i = .rfault) && f.bad i c) } := by
      cases f.bad i c <;> cases i <;> simp [PortRec.setSticky]
    rw [sticky]
    split <;> simp [PortRec.setChanged]

/-- R13, R18: the turn of PARTNER. -/
theorem applyItem_partner_onRecord {f : FetchResult} (s : State) (r : PortRec) (l : List EventBody)
    (hneg : f.negFalse = true → r.mirror.neg ≠ some (.flag true)) :
    State.applyItem f (onRecord s f.port r l) .partner =
      let new := partnerAfter f r.mirror.neg r.mirror.partner
      onRecord s f.port
        { r with
          mirror := r.mirror.set .partner new
          changed := r.changed.set .partner (r.changed.partner || differ r.mirror.partner new) }
        (l ++ if r.mirror.partner ≠ new then [.itemChange f.port .partner r.mirror.partner new f.cause] else []) := by
  have set : ∀ new, (onRecord s f.port r l).setItem f.port .partner new false f.cause =
      onRecord s f.port
        { r with
          mirror := r.mirror.set .partner new
          changed := r.changed.set .partner (r.changed.partner || differ r.mirror.partner new) }
        (l ++ if r.mirror.partner ≠ new then [.itemChange f.port .partner r.mirror.partner new f.cause] else []) := by
    intro new
    have get : r.mirror.partner = r.mirror.get .partner := rfl
    have getc : r.changed.partner = r.changed.get .partner := rfl
    rw [onRecord_setItem]
    simp only [get, getc, set_get_or, differ_iff]
    by_cases h : r.mirror.get .partner = new <;> simp [h, PortRec.setChanged]
  have keep : ∀ q : PortRec, { q with
      mirror := q.mirror.set .partner q.mirror.partner
      changed := q.changed.set .partner (q.changed.partner || differ q.mirror.partner q.mirror.partner) } = q := by
    intro q
    simp [PerItem.set]
  have mirror : ∀ b, (reported r b).mirror = r.mirror := fun _ => rfl
  cases hn : f.negFalse with
  | true =>
    have down := hneg hn
    have drop : (onRecord s f.port r l).dropPartner f.port f.cause =
        (onRecord s f.port r l).setItem f.port .partner none false f.cause := by
      unfold State.dropPartner
      rw [port_onRecord, mirror]
      split
      · rfl
      · next absent =>
        rw [set]
        have absent : r.mirror.partner = none := by simpa using absent
        rw [← absent, keep]
        simp
    have off : (((onRecord s f.port r l).dropPartner f.port f.cause).port f.port).mirror.neg ≠ some (.flag true) := by
      rw [drop, set, port_onRecord]
      simpa [reported, PerItem.set] using down
    simp only [State.applyItem, partnerAfter, hn, if_true]
    cases f.serves .partner with
    | none => exact drop.trans (set none)
    | some c =>
      simp only [off, if_false]
      exact drop.trans (set none)
  | false =>
    simp only [State.applyItem, partnerAfter, hn, Bool.false_eq_true, if_false, port_onRecord, mirror]
    cases h : f.serves .partner with
    | none =>
      rw [served_of_none h, ite_self, keep]
      simp
    | some c =>
      rw [served_of_some h]
      by_cases up : r.mirror.neg = some (.flag true)
      · simp only [up, if_true]
        exact set _
      · simp only [up, if_false]
        rw [keep]
        simp

/-- R17: the turn of COUNT. -/
theorem applyItem_count_onRecord {f : FetchResult} (s : State) (r : PortRec) (l : List EventBody) :
    State.applyItem f (onRecord s f.port r l) .count =
      onRecord s f.port
        { r with
          mirror := r.mirror.set .count (countAfter f r.mirror.count)
          changed := r.changed.set .count (r.changed.count || (countFull f && !r.saturated))
          accumulator := accumulated f r.accumulator
          saturated := r.saturated || countFull f }
        (l ++ if countFull f && !r.saturated then
          [.itemChange f.port .count r.mirror.count (some (.word 0xFFFF#16)) f.cause] else []) := by
  have word : ∀ n : Nat, n < 65536 → (BitVec.ofNat 16 n = 0xFFFF#16 ↔ n = 65535) := by
    intro n hn
    rw [← BitVec.toNat_inj]
    simp only [BitVec.toNat_ofNat]
    omega
  simp only [State.applyItem]
  cases h : f.serves .count with
  | none =>
    simp [countAfter, countFull, accumulated, countReadings, h, PerItem.set]
  | some c =>
    have first := field_lt c f.first
    have full : (decide (BitVec.ofNat 16 (c.field f.first) = 0xFFFF#16) ||
        decide ((f.second.map fun w => BitVec.ofNat 16 (c.field w)) = some 0xFFFF#16)) = countFull f := by
      simp only [countFull, countReadings, h, Option.map_some, word _ first]
      cases f.second with
      | none => simp
      | some w => simp [word _ (field_lt c w)]
    have total : (BitVec.ofNat 16 (c.field f.first)).toNat +
        ((f.second.map fun w => BitVec.ofNat 16 (c.field w)).map BitVec.toNat).getD 0 =
        c.field f.first + (f.second.map c.field).getD 0 := by
      cases f.second with
      | none => simp [Nat.mod_eq_of_lt first]
      | some w => simp [Nat.mod_eq_of_lt first, Nat.mod_eq_of_lt (field_lt c w)]
    have last : (f.second.map fun w => BitVec.ofNat 16 (c.field w)).getD (BitVec.ofNat 16 (c.field f.first)) =
        BitVec.ofNat 16 ((f.second.map c.field).getD (c.field f.first)) := by
      cases f.second <;> rfl
    have acc : accumulated f r.accumulator = satAdd r.accumulator (c.field f.first + (f.second.map c.field).getD 0) := by
      simp [accumulated, countReadings, h]
    have val : countAfter f r.mirror.count =
        some (.word (BitVec.ofNat 16 ((f.second.map c.field).getD (c.field f.first)))) := by
      simp [countAfter, countReadings, h]
    have get : r.mirror.get .count = r.mirror.count := rfl
    have mirror : ∀ b, (reported r b).mirror = r.mirror := fun _ => rfl
    have sat : ∀ b, (reported r b).saturated = r.saturated := fun _ => rfl
    unfold State.applyCount
    simp only [full, total, last, port_onRecord, mirror, sat, acc, val, get]
    split
    · next hit =>
      obtain ⟨hfull, hsat⟩ : countFull f = true ∧ r.saturated = false := by simpa using hit
      rw [← onRecord_post s f.port _ l _ rfl]
      refine congrArg (State.post · _) ?_
      simp only [hfull, hsat, Bool.or_true, Bool.not_false, Bool.and_true]
      exact onRecord_setPort s f.port r
        (PortRec.setChanged { r with
          accumulator := satAdd r.accumulator (c.field f.first + (f.second.map c.field).getD 0)
          mirror := r.mirror.set .count
            (some (.word (BitVec.ofNat 16 ((f.second.map c.field).getD (c.field f.first)))))
          saturated := true } .count) l
    · next miss =>
      have hsat : (r.saturated || countFull f) = r.saturated := by
        revert miss
        cases r.saturated <;> simp
      have hmiss : (countFull f && !r.saturated) = false := by simpa using miss
      have keep : r.changed.set .count r.changed.count = r.changed := set_get_eq ..
      simp only [hsat, hmiss, Bool.or_false, List.append_nil, keep]
      exact onRecord_setPort s f.port r
        { r with
          accumulator := satAdd r.accumulator (c.field f.first + (f.second.map c.field).getD 0)
          mirror := r.mirror.set .count
            (some (.word (BitVec.ofNat 16 ((f.second.map c.field).getD (c.field f.first))))) } l

/-- The record before the turn of PARTNER. -/
def beforePartner (f : FetchResult) (r : PortRec) : PortRec :=
  { r with
    mirror :=
      { r.mirror with
        link := served f .link r.mirror.link
        neg := served f .neg r.mirror.neg
        speed := served f .speed r.mirror.speed
        duplex := served f .duplex r.mirror.duplex
        rfault := served f .rfault r.mirror.rfault }
    changed :=
      { r.changed with
        link := r.changed.link || itemChanges f r .link
        neg := r.changed.neg || itemChanges f r .neg
        speed := r.changed.speed || itemChanges f r .speed
        duplex := r.changed.duplex || itemChanges f r .duplex
        rfault := r.changed.rfault || itemChanges f r .rfault }
    stickyDown := r.stickyDown || showsBad f .link
    stickyFault := r.stickyFault || showsBad f .rfault }

/-- R13 to R16: the turns of the five items before PARTNER. -/
theorem applyItems_beforePartner (s : State) (f : FetchResult) (r : PortRec) :
    [Item.link, .neg, .speed, .duplex, .rfault].foldl (State.applyItem f) (onRecord s f.port r []) =
      onRecord s f.port (beforePartner f r)
        (itemEvent f .link r ++ itemEvent f .neg r ++ itemEvent f .speed r ++ itemEvent f .duplex r ++
          itemEvent f .rfault r) := by
  simp only [List.foldl_cons, List.foldl_nil]
  rw [applyItem_onRecord (i := .link) (by decide) (by decide), applyItem_onRecord (i := .neg) (by decide) (by decide),
    applyItem_onRecord (i := .speed) (by decide) (by decide), applyItem_onRecord (i := .duplex) (by decide) (by decide),
    applyItem_onRecord (i := .rfault) (by decide) (by decide)]
  refine congrArg₂ (onRecord s f.port) ?_ ?_
  · simp [itemSeen, PerItem.set, PerItem.get, beforePartner, PortRec.sticky, itemChanges]
  · simp [itemSeen, itemEvent, PerItem.set, PerItem.get, PortRec.sticky, itemChanges]

/-- The events of an item other than PARTNER and COUNT, by the record before and after the fetch. -/
theorem itemEvent_eq (f : FetchResult) (r : PortRec) (i : Item) (newly : Bool)
    (h : newly = (showsBad f i && !r.sticky i && (decide (i = .link) || decide (i = .rfault)))) :
    itemEvent f i r =
      if r.mirror.get i ≠ served f i (r.mirror.get i) ∨ newly = true then
        [.itemChange f.port i (r.mirror.get i) (served f i (r.mirror.get i)) f.cause]
      else [] := by
  simp [itemEvent, itemChanges, h]

/-- A flag is newly set exactly when it was clear and its bad value is shown. -/
theorem not_and_or_eq (flag shows : Bool) : (!flag && (flag || shows)) = (shows && !flag && true) := by
  cases flag <;> cases shows <;> rfl

/-- R11 to R18: the turns of all items in item order. -/
theorem applyItems_eq (s : State) (f : FetchResult) :
    Item.all.foldl (State.applyItem f) s =
      onRecord s f.port (fetched f (s.port f.port)) (fetchEvents (s.port f.port) (fetched f (s.port f.port)) f) := by
  have off : f.negFalse = true → served f .neg (s.port f.port).mirror.neg ≠ some (.flag true) := by
    unfold FetchResult.negFalse served
    cases f.serves .neg <;> simp +contextual
  have split : Item.all = [.link, .neg, .speed, .duplex, .rfault] ++ [.partner, .energy, .count] := rfl
  conv => lhs; rw [← onRecord_nil s f.port]
  generalize s.port f.port = r at off
  rw [split, List.foldl_append, applyItems_beforePartner]
  simp only [List.foldl_cons, List.foldl_nil]
  rw [applyItem_partner_onRecord _ _ _ off, applyItem_onRecord (i := .energy) (by decide) (by decide),
    applyItem_count_onRecord]
  refine congrArg₂ (onRecord s f.port) ?_ ?_
  · simp [itemSeen, PerItem.set, PerItem.get, beforePartner, PortRec.sticky, itemChanges, fetched]
  · rw [itemEvent_eq f r .link (!r.stickyDown && (fetched f r).stickyDown) (not_and_or_eq ..),
      itemEvent_eq f r .rfault (!r.stickyFault && (fetched f r).stickyFault) (not_and_or_eq ..)]
    rw [itemEvent_eq f r .neg false (by simp), itemEvent_eq f r .speed false (by simp),
      itemEvent_eq f r .duplex false (by simp), itemEvent_eq _ _ .energy false (by simp)]
    have sat : (r.saturated = false ∧ (r.saturated = true ∨ countFull f = true)) ↔
        (r.saturated = false ∧ countFull f = true) := by
      cases r.saturated <;> simp
    simp [fetchEvents, fetched, itemSeen, beforePartner, PerItem.get, PerItem.set, and_comm, sat]
    exact ite_not ..

/-- R11 to R21: everything a fetch result does. -/
theorem applyFetch_eq (s : State) (f : FetchResult) :
    s.applyFetch f =
      let r := fetched f (s.port f.port)
      let e := posted s.ev s.stamp (fetchEvents (s.port f.port) r f)
      { s with
        ev := e.1
        pt := { s.pt with ports := s.pt.ports.set f.port (reported r e.2) }
        ie := if f.traffic then
            { s.ie with flash := s.ie.flash.set f.port (s.ie.flash[f.port].arrive s.ie.flashWidth) }
          else s.ie } := by
  unfold State.applyFetch
  dsimp only
  rw [applyItems_eq]
  split <;> rfl

/-- R11 to R18: the record of the port after a fetch result. -/
theorem port_applyFetch (s : State) (f : FetchResult) :
    (s.applyFetch f).port f.port =
      reported (fetched f (s.port f.port))
        (posted s.ev s.stamp (fetchEvents (s.port f.port) (fetched f (s.port f.port)) f)).2 := by
  rw [applyFetch_eq]
  simp [State.port]

/-- RESYNC is no part of what decides the events of a fetch. -/
@[simp] theorem fetchEvents_reported (r r' : PortRec) (b : Bool) (f : FetchResult) :
    fetchEvents r (reported r' b) f = fetchEvents r r' f := rfl

/-- R4, R13: which recipe serves an item, and the value it takes from a word. -/
theorem value_of_field (f : Profile) (i : Item) (c : Recipe) (w : Word) :
    let n := w.toNat / 2 ^ c.low % 2 ^ c.width
    (i ∈ [Item.link, .neg, .duplex, .rfault, .energy] →
      f.value i c w = .flag (if c.polarity = .normal then decide (n = 1) else decide (n = 0))) ∧
    (i ∈ [Item.partner, .count] → f.value i c w = .word (BitVec.ofNat 16 n)) ∧
    (i = .speed → ∀ x ∈ [(0, f.speedMap.e0), (1, f.speedMap.e1), (2, f.speedMap.e2), (3, f.speedMap.e3)],
      n = x.1 → f.value i c w = .speed x.2) := by
  have asserted : c.asserted w =
      if c.polarity = .normal then decide (w.toNat / 2 ^ c.low % 2 ^ c.width = 1)
      else decide (w.toNat / 2 ^ c.low % 2 ^ c.width = 0) := by
    unfold Recipe.asserted
    cases c.polarity <;> rfl
  refine ⟨fun h => ?_, fun h => ?_, ?_⟩
  · rw [← asserted]
    fin_cases h <;> rfl
  · fin_cases h <;> rfl
  · rintro rfl x hx hn
    have field : c.field w = x.1 := hn
    fin_cases hx <;> simp [Profile.value, field, SpeedMap.entry]

/-- R7, R15, R16: what shows the bad value of a sticky flag. -/
theorem bad_iff {f : FetchResult} {i : Item} {c : Recipe} {v : ItemValue} (h : ∀ u, badValue i u = true ↔ u = v) :
    f.bad i c = true ↔ f.live i c = v ∨ (c.latching = true ∧ f.profile.value i c f.first = v) := by
  simp [FetchResult.bad, Profile.latched, h]

/-- R18: PARTNER after a fetch, case by case. -/
theorem partnerAfter_cases (f : FetchResult) (r : PortRec) :
    (∀ c, f.serves .partner = some c → (fetched f r).mirror.neg = some (.flag true) →
      (fetched f r).mirror.partner = some (f.live .partner c)) ∧
    (∀ c, f.serves .neg = some c → f.live .neg c = .flag false → (fetched f r).mirror.partner = none) ∧
    ((f.serves .partner = none ∨ (fetched f r).mirror.neg ≠ some (.flag true)) →
      (∀ c, f.serves .neg = some c → f.live .neg c ≠ .flag false) →
      (fetched f r).mirror.partner = r.mirror.partner) := by
  have lost : f.negFalse = true ↔ ∃ c, f.serves .neg = some c ∧ f.live .neg c = .flag false := by
    unfold FetchResult.negFalse
    cases f.serves .neg <;> simp
  have down : f.negFalse = true → served f .neg r.mirror.neg ≠ some (.flag true) := by
    rw [lost]
    rintro ⟨c, hc, hv⟩
    simp [served_of_some hc, hv]
  simp only [fetched, partnerAfter]
  refine ⟨fun c hc up => ?_, fun c hc hv => ?_, fun off kept => ?_⟩
  · rw [if_neg fun h => down h up, if_pos up, served_of_some hc]
  · rw [if_pos (lost.2 ⟨c, hc, hv⟩)]
  · rw [if_neg fun h => by obtain ⟨c, hc, hv⟩ := lost.1 h; exact kept c hc hv]
    obtain none_served | low := off
    · rw [served_of_none none_served, ite_self]
    · rw [if_neg low]

/-- The record after a fetch, item by item: values, flags and changed flags of the items other than PARTNER and COUNT. -/
theorem get_fetched {f : FetchResult} {i : Item} (hp : i ≠ .partner) (hc : i ≠ .count) (r : PortRec) :
    (fetched f r).mirror.get i = served f i (r.mirror.get i) ∧
    (fetched f r).changed.get i = (r.changed.get i || itemChanges f r i) := by
  cases i <;> first | exact ⟨rfl, rfl⟩ | contradiction

/-- R13: an item that the fetch does not serve keeps value and changed flag, PARTNER apart. -/
theorem get_fetched_of_unserved {f : FetchResult} {i : Item} (hp : i ≠ .partner) (h : f.serves i = none) (r : PortRec) :
    (fetched f r).mirror.get i = r.mirror.get i ∧ (fetched f r).changed.get i = r.changed.get i := by
  by_cases hc : i = .count
  · subst hc
    have none_read : countReadings f = none := by simp [countReadings, h]
    simp [fetched, PerItem.get, countAfter, countFull, none_read]
  · obtain ⟨value, changed⟩ := get_fetched hp hc r
    rw [value, changed]
    simp [itemChanges, served_of_none h, showsBad_of_none h]

/-- R7, R15, R16: the sticky flag and the changed flag of LINK after a fetch that serves it. -/
theorem link_fetched {f : FetchResult} {c : Recipe} (h : f.serves .link = some c) (r : PortRec) :
    let bad := f.live .link c = .flag false ∨ (c.latching = true ∧ f.profile.value .link c f.first = .flag false)
    ((fetched f r).stickyDown = true ↔ (r.stickyDown = true ∨ bad)) ∧
    ((fetched f r).changed.link = true ↔
      (r.changed.link = true ∨ r.mirror.link ≠ (fetched f r).mirror.link ∨ (bad ∧ r.stickyDown = false))) := by
  have shows := bad_iff (f := f) (c := c) (i := .link) (v := .flag false) (by simp [badValue])
  simp [fetched, itemChanges_of_some h, showsBad_of_some h, served_of_some h, shows, PerItem.get, PortRec.sticky]

/-- R7, R15, R16: the sticky flag and the changed flag of RFAULT after a fetch that serves it. -/
theorem rfault_fetched {f : FetchResult} {c : Recipe} (h : f.serves .rfault = some c) (r : PortRec) :
    let bad := f.live .rfault c = .flag true ∨ (c.latching = true ∧ f.profile.value .rfault c f.first = .flag true)
    ((fetched f r).stickyFault = true ↔ (r.stickyFault = true ∨ bad)) ∧
    ((fetched f r).changed.rfault = true ↔
      (r.changed.rfault = true ∨ r.mirror.rfault ≠ (fetched f r).mirror.rfault ∨ (bad ∧ r.stickyFault = false))) := by
  have shows := bad_iff (f := f) (c := c) (i := .rfault) (v := .flag true) (by simp [badValue])
  simp [fetched, itemChanges_of_some h, showsBad_of_some h, served_of_some h, shows, PerItem.get, PortRec.sticky]

/-- R14: the changed flag of an item without a sticky flag. -/
theorem changed_fetched {f : FetchResult} {i : Item} {c : Recipe} (hi : i ∈ [Item.neg, .speed, .duplex, .energy])
    (h : f.serves i = some c) (r : PortRec) :
    ((fetched f r).changed.get i = true ↔
      (r.changed.get i = true ∨ r.mirror.get i ≠ (fetched f r).mirror.get i)) := by
  have hne : i ≠ .partner ∧ i ≠ .count ∧ i ≠ .link ∧ i ≠ .rfault := by fin_cases hi <;> decide
  obtain ⟨partner, count, link, rfault⟩ := hne
  obtain ⟨value, changed⟩ := get_fetched partner count r (f := f)
  rw [value, changed]
  simp [itemChanges_of_some h, served_of_some h, link, rfault]

/-- Settles O18: the closed form of the record after a fetch (`fetched`), read item by item. -/
theorem fetchResultAppliesServedItems : Obligations.FetchResultAppliesServedItems := by
  refine ⟨fun f i c w => ⟨serves_eq_some_iff, rfl, value_of_field f.profile i c w⟩, fun s f => ?_⟩
  have frame := applyFetch_frame s f
  have whole := applyFetch_eq s f
  intro r t r' e
  have record : r' = reported (fetched f r) (posted s.ev s.stamp (fetchEvents r (fetched f r) f)).2 :=
    port_applyFetch s f
  have events : e = posted s.ev s.stamp (fetchEvents r (fetched f r) f) := by
    simp only [e, record, fetchEvents_reported]
  obtain ⟨partner_live, partner_lost, partner_kept⟩ := partnerAfter_cases f r
  refine ⟨?_, ?_, ?_, ?_, ?_, ?_, ?_, ?_, ?_, ?_, ?_, ?_, ?_, ?_, ?_, ?_, frame.1, ?_, ?_, ?_, ?_⟩
  · intro i c hp hc h
    rw [record, ← served_of_some h (r.mirror.get i)]
    exact (get_fetched hp hc r).1
  · intro i hp h
    rw [record]
    exact get_fetched_of_unserved hp h r
  · intro h
    simp [record, reported, fetched, showsBad_of_none h]
  · intro h
    simp [record, reported, fetched, showsBad_of_none h]
  · intro h
    have none_read : countReadings f = none := by simp [countReadings, h]
    have quiet : f.traffic = false := by simp [FetchResult.traffic, h]
    refine ⟨?_, ?_, ?_⟩
    · simp [record, reported, fetched, accumulated, none_read]
    · simp [record, reported, fetched, countFull, none_read]
    · simp [t, whole, quiet]
  · intro c h
    rw [record]
    exact link_fetched h r
  · intro c h
    rw [record]
    exact rfault_fetched h r
  · intro i c hi h
    rw [record]
    exact changed_fetched hi h r
  · rw [record]
    exact partner_live
  · rw [record]
    exact partner_lost
  · rw [record]
    exact partner_kept
  · simp [record, reported, fetched]
  · rw [events]
    simp [t, whole, r]
  · rw [events, record]
    rfl
  · rw [record]
    rfl
  · rw [record]
    rfl
  · simp [t, whole]
  · simp only [t, whole]
    split <;> rfl
  · intro q hq
    have other_index : f.port.val ≠ q.val := fun h => hq (Fin.ext h.symm)
    simp only [t, whole]
    split <;> simp [Vector.getElem_set_ne, other_index]
  · simp [t, whole]

/-- R8: the accumulator stops at 4294967295. -/
theorem toNat_satAdd (acc : BitVec 32) (n : Nat) : (satAdd acc n).toNat = min (acc.toNat + n) 4294967295 := by
  unfold satAdd
  split
  · rw [BitVec.toNat_ofNat]
    omega
  · simp
    omega

/-- R17: only COUNT served, the events of a fetch are COUNT's one. -/
theorem fetchEvents_of_count_alone {f : FetchResult} (h : ∀ i, i ≠ .count → f.serves i = none) (r : PortRec) :
    fetchEvents r (fetched f r) f =
      if countFull f = true ∧ r.saturated = false then
        [.itemChange f.port .count r.mirror.count (some (.word 0xFFFF#16)) f.cause] else [] := by
  have link := h .link (by decide)
  have neg := h .neg (by decide)
  have speed := h .speed (by decide)
  have duplex := h .duplex (by decide)
  have rfault := h .rfault (by decide)
  have partner := h .partner (by decide)
  have energy := h .energy (by decide)
  have held : f.negFalse = false := by simp [FetchResult.negFalse, neg]
  have sat : (r.saturated = false ∧ (r.saturated = true ∨ countFull f = true)) ↔
      (countFull f = true ∧ r.saturated = false) := by
    cases r.saturated <;> simp
  simp [fetchEvents, fetched, served_of_none, showsBad_of_none, partnerAfter, *, PerItem.get]

/-- Settles O19: the closed form of the record after a fetch that serves COUNT, and the arrival it hands over. -/
theorem countObservationAccumulates : Obligations.CountObservationAccumulates := by
  intro s f c served_count r t r' m first second full
  have whole := applyFetch_eq s f
  have record : r' = reported (fetched f r) (posted s.ev s.stamp (fetchEvents r (fetched f r) f)).2 :=
    port_applyFetch s f
  have readings : countReadings f = some (first, f.second.map c.field) := by simp [countReadings, served_count, first]
  have full_iff : countFull f = true ↔ full := by simp [countFull, readings, full]
  have traffic : f.traffic = decide (0 < first + second) := by
    simp only [FetchResult.traffic, served_count]
    rfl
  refine ⟨?_, ?_, ?_, ?_, fun none_seen => ?_, fun seen => ?_, fun alone => ?_⟩
  · simp only [record, reported, fetched, accumulated, readings, toNat_satAdd, Nat.add_assoc]
    rfl
  · simp [record, reported, fetched, full_iff]
  · simp [record, reported, fetched, countAfter, readings]
  · simp [record, reported, fetched, full_iff]
  · simp [t, whole, traffic, none_seen]
  · have arrives : m.arrive s.ie.flashWidth =
        if m.phase = .idle then { m with phase := .pulse, timer := 10 * s.ie.flashWidth }
        else { m with pending := true } := by
      unfold FlashMachine.arrive
      cases h : m.phase <;> simp
    simp only [t, whole, traffic, seen, decide_true, if_true, ← arrives]
    rfl
  · have events := fetchEvents_of_count_alone alone r
    simp only [full_iff] at events
    constructor
    · intro hit
      simp only [t, whole, record, show s.port f.port = r from rfl, events, if_pos hit, posted, reported, Bool.or_false]
      rfl
    · intro miss
      simp only [t, whole, record, show s.port f.port = r from rfl, events, if_neg miss, posted, reported, Bool.or_false]
      exact ⟨trivial, rfl⟩

end Sys2Proof.Laws
end

section
/-! PROOFS. The outcomes of jobs (R54 to R63): each as the state it leaves. -/
namespace Sys2Proof.Laws

open Sys2Proof.Machine Sys2Proof.Safety

/-! ### Outcomes that leave a port in its state -/

/-- R47 (b): what is marked stale, channel by channel. -/
theorem markStale_state (s : State) (p : PortId) :
    s.markStale p = { s with ch0 := staying s.ch0 p, ch1 := staying s.ch1 p } := by
  unfold State.markStale
  rw [markStale_eq]
  rfl

/-- A record changed, with what is in flight for its port marked stale. -/
theorem setPort_markStale (s : State) (p : PortId) (r : PortRec) :
    (s.setPort p r).markStale p =
      { s with
        pt := { s.pt with ports := s.pt.ports.set p r }, ch0 := staying s.ch0 p, ch1 := staying s.ch1 p } := by
  rw [markStale_state]
  rfl

/-! ### Transitions of a bound port -/

/-- R47: a transition to a state other than PROBING. -/
theorem transition_leaves (s : State) (p : PortId) {new : PortState} (why : Option Reason) (eff : PortRec → PortRec)
    (h : new ≠ .probing) :
    s.transition p new why eff =
      let after := { eff (s.port p) with
        state := new, reason := why, probeRetry := none
        lostCheck := if new = .lost then some s.pt.lostInterval else none }
      let e := s.ev.take (.stateChange p (s.port p).state new why) s.stamp
      { s with
        ev := e.1
        pt := { s.pt with ports := s.pt.ports.set p (reported after e.2) }
        ch0 := leaving s.ch0 .ch0 (s.port p) p
        ch1 := leaving s.ch1 .ch1 (s.port p) p } := by
  rw [transition_eq]
  simp only [entering_of_ne _ _ _ _ _ h]

/-- R47: a transition to PROBING that keeps the binding. -/
theorem transition_reprobes (s : State) (p : PortId) (why : Option Reason) (eff : PortRec → PortRec)
    (h : (eff (s.port p)).binding = (s.port p).binding) :
    s.transition p .probing why eff =
      let after := { eff (s.port p) with state := .probing, reason := why, probeRetry := none, lostCheck := none }
      let e := s.ev.take (.stateChange p (s.port p).state .probing why) s.stamp
      { s with
        ev := e.1
        pt := { s.pt with ports := s.pt.ports.set p (reported after e.2) }
        ch0 := reprobing s.ch0 .ch0 (s.port p) p
        ch1 := reprobing s.ch1 .ch1 (s.port p) p } := by
  rw [transition_eq]
  simp only [reduceCtorEq, if_false]
  rw [entering_leaving _ _ _ _ _ (by exact h), entering_leaving _ _ _ _ _ (by exact h)]

/-- R5, R47: a loss of the port: the mirror cleared, then the transition, with the events of both. -/
theorem clearLive_transition (s : State) (p : PortId) (new : PortState) (why : Option Reason) (eff : PortRec → PortRec)
    (he : ∀ r, (eff r).binding = r.binding) (hr : ∀ r b, eff (reported r b) = reported (eff r) b) :
    (s.clearLive p).transition p new why eff =
      let after := { eff (cleared (s.port p)) with
        state := new, reason := why, probeRetry := none
        lostCheck := if new = .lost then some s.pt.lostInterval else none }
      let e := posted s.ev s.stamp (clearingEvents (s.port p) p ++ [.stateChange p (s.port p).state new why])
      { s with
        ev := e.1
        pt := { s.pt with ports := s.pt.ports.set p (reported after e.2) }
        ch0 := if new = .probing then reprobing s.ch0 .ch0 (s.port p) p else leaving s.ch0 .ch0 (s.port p) p
        ch1 := if new = .probing then reprobing s.ch1 .ch1 (s.port p) p else leaving s.ch1 .ch1 (s.port p) p } := by
  rw [clearLive_eq, transition_onRecord s p (cleared (s.port p)) _ new why eff rfl rfl he hr]

/-! ### Scan jobs -/

/-- A limit that a count has not passed and that one more reaches. -/
theorem min_count_succ {n limit : Nat} (h : n ≤ limit) (h' : limit ≤ n + 1) :
    (if n < limit then n + 1 else n) = limit := by
  split <;> omega

/-- Clearing the mirror leaves the miss count. -/
theorem cleared_missCount (r : PortRec) (n : Nat) :
    cleared { r with missCount := n } = { cleared r with missCount := n } := rfl

/-- R60: the miss that reaches the limit loses the port. -/
theorem scanOutcome_lost {s : State} {p : PortId} (h : (s.port p).missCount ≤ s.pt.missLimit)
    (h' : s.pt.missLimit ≤ (s.port p).missCount + 1) :
    s.scanOutcome p .noAnswer =
      ((s.setPort p { s.port p with missCount := s.pt.missLimit }).clearLive p).transition p .lost (some .misses) id := by
  simp [State.scanOutcome, State.modPort, min_count_succ h h']

/-- R60: a miss below the limit is counted. -/
theorem scanOutcome_missed {s : State} {p : PortId} (h : (s.port p).missCount + 1 < s.pt.missLimit) :
    s.scanOutcome p .noAnswer =
      (s.setPort p { s.port p with missCount := (s.port p).missCount + 1 }).markStale p := by
  have below : (s.port p).missCount < s.pt.missLimit := by omega
  simp [State.scanOutcome, State.modPort, below, h.ne]

/-- Settles O20: each outcome is a change of the record with its port's work stale, or a loss of the port
(`clearLive_transition`). -/
theorem scanOutcomesCountMissesAndLoseThePort : Obligations.ScanOutcomesCountMissesAndLoseThePort := by
  intro s p active r stays e
  refine ⟨setPort_markStale .., fun below => ?_, fun within reached => ?_, ?_, rfl, rfl⟩
  · rw [scanOutcome_missed below]
    exact setPort_markStale ..
  · rw [scanOutcome_lost within reached, clearLive_transition _ _ _ _ id (fun _ => rfl) (fun _ _ => rfl)]
    have events : ∀ n, clearingEvents { s.port p with missCount := n } p = clearingEvents r p := fun _ => rfl
    have left : ∀ c ch n, leaving c ch { s.port p with missCount := n } p = leaving c ch r p := fun _ _ _ => rfl
    simp only [State.port_setPort_self, events, left, cleared_missCount]
    simp only [State.setPort, Vector.set_set, active, reduceCtorEq, if_false, if_true, id]
    rfl
  · have lost : s.scanOutcome p .markerMismatch =
        (s.clearLive p).transition p .probing (some .remoteReset) fun r => { r with attemptCount := 0 } := rfl
    rw [lost, clearLive_transition _ _ _ _ (fun r => { r with attemptCount := 0 }) (fun _ => rfl) (fun _ _ => rfl)]
    simp only [active, reduceCtorEq, if_false, if_true]
    rfl

/-! ### Probe attempts and presence checks -/

/-- R57: a counted failure below the limit starts the probe-retry timer. -/
theorem probeFailed_counted {s : State} {p : PortId} (why : Reason)
    (h : (s.port p).attemptCount + 1 < s.pt.attemptLimit) :
    s.probeFailed p why = (s.setPort p { s.port p with
      attemptCount := (s.port p).attemptCount + 1, probeRetry := some s.pt.retryInterval }).markStale p := by
  have below : (s.port p).attemptCount < s.pt.attemptLimit := by omega
  simp [State.probeFailed, State.modPort, below, h.ne]

/-- R57: a counted failure that reaches the limit fails the port. -/
theorem probeFailed_failed {s : State} {p : PortId} (why : Reason) (h : (s.port p).attemptCount ≤ s.pt.attemptLimit)
    (h' : s.pt.attemptLimit ≤ (s.port p).attemptCount + 1) :
    s.probeFailed p why =
      (s.setPort p { s.port p with attemptCount := s.pt.attemptLimit }).transition p .failed (some why) id := by
  simp [State.probeFailed, State.modPort, min_count_succ h h']

/-- R59: an uncounted check returns its member to the front of the probe queue. -/
theorem requeue_of_binding {s : State} {p : PortId} {b : Binding} (h : (s.port p).binding = some b) (k : ProbeKind) :
    s.requeue p k =
      s.setChan b.channel { s.chan b.channel with sched := withProbeFirst (s.chan b.channel).sched p k } := by
  simp only [State.requeue, State.schedOf, h, returnProbe_eq]
  rfl

/-- Settles O21: each outcome is a change of the record with its port's work stale, a transition, or the member's return
to its queue. -/
theorem probeAndPresenceOutcomes : Obligations.ProbeAndPresenceOutcomes := by
  intro s p b bound r stays moves leaves returned
  refine ⟨fun probing => ⟨?_, ?_, ?_, ?_, ?_⟩, fun lost => ⟨?_, setPort_markStale .., ?_, ?_⟩⟩
  · have good : s.probeOutcome p .good = s.transition p .active (s.port p).reason
        fun r => { r with missCount := 0, lastGood := some s.stamp } := rfl
    rw [good, transition_leaves _ _ _ _ (by decide)]
    rfl
  · have differs : s.probeOutcome p .identity = s.transition p .failed (some .identity) id := rfl
    rw [differs, transition_leaves _ _ _ _ (by decide)]
    rfl
  · intro o why hwhy
    have failed : s.probeOutcome p o = s.probeFailed p why := by
      obtain ⟨rfl, rfl⟩ | ⟨rfl, rfl⟩ := hwhy <;> rfl
    rw [failed]
    refine ⟨fun below => ?_, fun within reached => ?_⟩
    · rw [probeFailed_counted why below]
      exact setPort_markStale ..
    · rw [probeFailed_failed why within reached, transition_leaves _ _ _ _ (by decide)]
      have left : ∀ c ch n, leaving c ch { s.port p with attemptCount := n } p = leaving c ch r p := fun _ _ _ => rfl
      simp only [State.port_setPort_self, left, reduceCtorEq, if_false, id]
      simp only [State.setPort, Vector.set_set]
      rfl
  · exact requeue_of_binding bound .probe
  · exact requeue_of_binding bound .probe
  · have good : s.presenceOutcome p .good =
        s.transition p .probing (some .present) fun r => { r with attemptCount := 0 } := rfl
    rw [good, transition_reprobes _ _ _ _ rfl]
  · exact requeue_of_binding bound .presence
  · exact requeue_of_binding bound .presence

end Sys2Proof.Laws
end

section
/-! PROOFS. The event queue (R141 to R151): the three ways a posted event is taken, and the laws that posting and popping
keep. -/
namespace Sys2Proof.Laws

open Sys2Proof.Machine Sys2Proof.Safety

/-! ### How a posted event is taken -/

theorem holds_iff {e : EventBlock} {k : EventKey} : e.holds k = true ↔ ∃ r ∈ e.queue, r.body.key = k := by
  simp [EventBlock.holds]

/-- R141 (a): a record of the event's key waits. -/
theorem take_of_waiting {e : EventBlock} {b : EventBody} (stamp : Word) (h : ∃ r ∈ e.queue, r.body.key = b.key) :
    e.take b stamp = (e.foldIn b stamp, false) := by
  simp [EventBlock.take, holds_iff.2 h]

/-- R141 (b): no record of the event's key waits and there is room. -/
theorem take_of_room {e : EventBlock} {b : EventBody} (stamp : Word) (h : ∀ r ∈ e.queue, r.body.key ≠ b.key)
    (room : e.queue.length < 64) : e.take b stamp = (e.store b stamp, false) := by
  have absent : e.holds b.key = false := by
    rw [← Bool.not_eq_true, holds_iff]
    rintro ⟨r, hr, hk⟩
    exact h r hr hk
  simp [EventBlock.take, absent, Config.eventCapacity, room]

/-- R141 (c): no record of the event's key waits and the queue is full. -/
theorem take_of_full {e : EventBlock} {b : EventBody} (stamp : Word) (h : ∀ r ∈ e.queue, r.body.key ≠ b.key)
    (full : 64 ≤ e.queue.length) : e.take b stamp = (e.refuse, true) := by
  have absent : e.holds b.key = false := by
    rw [← Bool.not_eq_true, holds_iff]
    rintro ⟨r, hr, hk⟩
    exact h r hr hk
  simp [EventBlock.take, absent, Config.eventCapacity, Nat.not_lt.2 full]

/-- R141: the three ways an event is taken. -/
theorem take_cases (e : EventBlock) (b : EventBody) (stamp : Word) :
    ((∃ r ∈ e.queue, r.body.key = b.key) ∧ e.take b stamp = (e.foldIn b stamp, false)) ∨
    ((∀ r ∈ e.queue, r.body.key ≠ b.key) ∧ e.queue.length < 64 ∧ e.take b stamp = (e.store b stamp, false)) ∨
    ((∀ r ∈ e.queue, r.body.key ≠ b.key) ∧ 64 ≤ e.queue.length ∧ e.take b stamp = (e.refuse, true)) := by
  by_cases waiting : ∃ r ∈ e.queue, r.body.key = b.key
  · exact .inl ⟨waiting, take_of_waiting stamp waiting⟩
  · have absent : ∀ r ∈ e.queue, r.body.key ≠ b.key := fun r hr hk => waiting ⟨r, hr, hk⟩
    obtain room | full := Nat.lt_or_ge e.queue.length 64
    · exact .inr (.inl ⟨absent, room, take_of_room stamp absent room⟩)
    · exact .inr (.inr ⟨absent, full, take_of_full stamp absent full⟩)

/-- R143: a record folded into keeps its key. -/
@[simp] theorem key_fold (old new : EventBody) : (old.fold new).key = old.key := by
  cases old <;> cases new <;> rfl

/-- An event that is not refused changes the event block alone. -/
theorem post_of_accepted {s : State} {b : EventBody} {e : EventBlock} (h : s.ev.take b s.stamp = (e, false)) :
    s.post b = { s with ev := e } := by
  cases hb : b.port? <;> simp [State.post, h, hb]

/-- An event that is refused sets RESYNC of its port. -/
theorem post_of_refused {s : State} {b : EventBody} {e : EventBlock} {p : PortId} (hp : b.port? = some p)
    (h : s.ev.take b s.stamp = (e, true)) :
    s.post b =
      { s with
        ev := e
        pt := { s.pt with ports := s.pt.ports.set p { s.port p with resync := true } } } := by
  rw [post_of_port s b p hp, h]
  simp [reported]

/-- Settles O48, along the three ways an event is taken. -/
theorem postedEventIsFoldedStoredOrRefused : Obligations.PostedEventIsFoldedStoredOrRefused := by
  intro s b t
  refine ⟨fun waiting => ?_, fun absent room => ?_, fun absent full => ?_⟩
  · have taken : t = { s with ev := s.ev.foldIn b s.stamp } := post_of_accepted (take_of_waiting s.stamp waiting)
    have queue : t.ev.queue = s.ev.queue.map fun r => if r.body.key = b.key then r.fold b s.stamp else r := by
      rw [taken]
      rfl
    refine ⟨?_, ?_, fun n r hr => ⟨fun other => ?_, fun same => ⟨r.fold b s.stamp, ?_, rfl, rfl, rfl, ?_, ?_, ?_⟩⟩⟩
    · rw [queue, taken]
      rfl
    · rw [queue, List.length_map]
    · rw [queue, List.getElem?_map, hr, Option.map_some, if_neg other]
    · rw [queue, List.getElem?_map, hr, Option.map_some, if_pos same]
    · rintro p i o n' c o' n'' c' hbody rfl
      simp [EventRec.fold, hbody, EventBody.fold]
    · rintro p o n' w o' n'' w' hbody rfl
      simp [EventRec.fold, hbody, EventBody.fold]
    · rintro ch rfl
      cases hbody : r.body <;> simp_all [EventRec.fold, EventBody.fold, EventBody.key]
  · have taken : t = { s with ev := s.ev.store b s.stamp } := post_of_accepted (take_of_room s.stamp absent room)
    rw [taken]
    simp [EventBlock.store, EventBlock.startedTimer]
  · have refused := take_of_full (b := b) s.stamp absent full
    have block : t.ev = s.ev.refuse := by
      cases hp : b.port? with
      | none => simp [t, post_of_none s b hp, refused]
      | some p => simp [t, post_of_refused hp refused]
    refine ⟨block, fun p hp => ?_, fun none_named => ?_⟩
    · rw [block]
      exact post_of_refused hp refused
    · rw [block]
      simp [t, post_of_none s b none_named, refused]

/-! ### The laws of the queue -/

/-- R143: folding an event into its record keeps the laws. -/
theorem eventLaw_foldIn {e : EventBlock} (h : EventLaw e) (b : EventBody) (stamp : Word) :
    EventLaw (e.foldIn b stamp) where
  room := by simpa [EventBlock.foldIn] using h.room
  keys := by
    have same : ((e.foldIn b stamp).queue.map fun r => r.body.key) = e.queue.map fun r => r.body.key := by
      simp only [EventBlock.foldIn, List.map_map]
      refine List.map_congr_left fun r _ => ?_
      simp only [Function.comp]
      split <;> simp [EventRec.fold]
    rw [same]
    exact h.keys
  repeats := by
    intro r' hr'
    obtain ⟨r, hr, rfl⟩ := List.mem_map.1 hr'
    have bounds := h.repeats r hr
    split
    · simp only [EventRec.fold]
      split <;> omega
    · exact bounds
  threshold := h.threshold
  timer := by simpa [EventBlock.foldIn] using h.timer

/-- R141, R142, R150: storing a record where there is room and none of its key waits keeps the laws. -/
theorem eventLaw_store {e : EventBlock} (h : EventLaw e) {b : EventBody} (stamp : Word)
    (absent : ∀ r ∈ e.queue, r.body.key ≠ b.key) (room : e.queue.length < 64) : EventLaw (e.store b stamp) where
  room := by simpa [EventBlock.store] using room
  keys := by
    simp only [EventBlock.store, List.map_append, List.map_cons, List.map_nil]
    refine List.nodup_append.2 ⟨h.keys, List.nodup_singleton _, ?_⟩
    rintro k hk l hl rfl
    obtain ⟨r, hr, rfl⟩ := List.mem_map.1 hk
    exact absent r hr (List.mem_singleton.1 hl)
  repeats := by
    intro r hr
    obtain hr | hr := List.mem_append.1 hr
    · exact h.repeats r hr
    · rw [List.mem_singleton.1 hr]
      exact ⟨Nat.le_refl 1, Nat.le_of_ble_eq_true rfl⟩
  threshold := h.threshold
  timer := by
    simp only [EventBlock.store, List.append_eq_nil_iff, reduceCtorEq, and_false, iff_false, List.isEmpty_iff]
    split
    · unfold EventBlock.startedTimer
      split <;> simp
    · next filled => rwa [h.timer]

/-- R141: however an event is taken, the laws are kept. -/
theorem eventLaw_take {e : EventBlock} (h : EventLaw e) (b : EventBody) (stamp : Word) :
    EventLaw (e.take b stamp).1 := by
  obtain ⟨-, hw⟩ | ⟨absent, room, hs⟩ | ⟨-, -, hr⟩ := take_cases e b stamp
  · rw [hw]
    exact eventLaw_foldIn h b stamp
  · rw [hs]
    exact eventLaw_store h stamp absent room
  · rw [hr]
    exact ⟨h.room, h.keys, h.repeats, h.threshold, h.timer⟩

/-- R145, R146: popping the head keeps the laws. -/
theorem eventLaw_pop {e : EventBlock} (h : EventLaw e) {r : EventRec} {rest : List EventRec} (hq : e.queue = r :: rest) :
    EventLaw (e.pop r rest) where
  room := by
    have room := h.room
    rw [hq, List.length_cons] at room
    exact Nat.le_of_succ_le room
  keys := by
    have keys := h.keys
    rw [hq, List.map_cons] at keys
    exact (List.nodup_cons.1 keys).2
  repeats := fun r' hr' => h.repeats r' (hq ▸ List.mem_cons_of_mem _ hr')
  threshold := h.threshold
  timer := by
    have running : e.timer ≠ .stopped := by
      rw [Ne, h.timer, hq]
      exact List.cons_ne_nil r rest
    cases rest <;> simp [EventBlock.pop, running]

end Sys2Proof.Laws
end

section
/-! PROOFS. What the port records keep (R2 to R18, R48, R66): the law of one record through every change a claim makes of
it, and the law of the Port Table when one record changes. -/
namespace Sys2Proof.Laws

open Sys2Proof.Machine Sys2Proof.Safety

/-! ### The law of one record -/

/-- RESYNC is no part of the law. -/
theorem recordLaw_reported {r : PortRec} (h : RecordLaw r) (b : Bool) : RecordLaw (reported r b) :=
  ⟨h.bound, h.down, h.fault, h.partner, h.domain, h.retry, h.lost, h.unbound⟩

/-- R2 to R18: the law depends on the state, the binding, the mirror and the sticky flags, and lets timers stop. -/
theorem recordLaw_of_same {r r' : PortRec} (h : RecordLaw r) (state : r'.state = r.state) (binding : r'.binding = r.binding)
    (mirror : r'.mirror = r.mirror) (down : r'.stickyDown = r.stickyDown) (fault : r'.stickyFault = r.stickyFault)
    (retry : r'.probeRetry.isSome = true → r.state = .probing) (lost : r'.lostCheck.isSome = true → r.state = .lost) :
    RecordLaw r' := by
  have bound : r'.bound = r.bound := by simp [PortRec.bound, state]
  refine ⟨?_, ?_, ?_, ?_, ?_, ?_, ?_, ?_⟩
  · rw [binding, bound, h.bound]
  · rw [bound, mirror, down]
    exact h.down
  · rw [bound, mirror, fault]
    exact h.fault
  · rw [mirror]
    exact h.partner
  · rw [mirror]
    exact h.domain
  · rwa [state]
  · rwa [state]
  · rw [bound, mirror]
    exact h.unbound

/-- R4: an item's live value is of its domain. -/
theorem value_domain (f : Profile) (c : Recipe) (w : Word) :
    (∀ i ∈ [Item.link, .neg, .duplex, .rfault, .energy], ∃ b, f.value i c w = .flag b) ∧
    (∃ v, f.value .speed c w = .speed v) ∧ ∃ v, f.value .partner c w = .word v := by
  refine ⟨fun i hi => ?_, ⟨_, rfl⟩, ⟨_, rfl⟩⟩
  fin_cases hi <;> exact ⟨_, rfl⟩

/-- R3: a one-bit item keeps its domain through a fetch. -/
theorem isFlag_served {f : FetchResult} {i : Item} (hi : i ∈ [Item.link, .neg, .duplex, .rfault, .energy])
    {old : Option ItemValue} (h : isFlag old = true) : isFlag (served f i old) = true := by
  unfold served
  cases f.serves i with
  | none => exact h
  | some c =>
    obtain ⟨b, hb⟩ := (value_domain f.profile c (f.second.getD f.first)).1 i hi
    simp [FetchResult.live, hb, isFlag]

/-- R13, R18: PARTNER stays under NEG through a fetch. -/
theorem partner_under_neg {f : FetchResult} {neg old : Option ItemValue}
    (h : old.isSome = true → neg = some (.flag true))
    (after : (partnerAfter f (served f .neg neg) old).isSome = true) : served f .neg neg = some (.flag true) := by
  by_contra low
  unfold partnerAfter at after
  rw [if_neg low] at after
  split at after
  · exact absurd after (by simp)
  · next kept =>
    have up := h after
    cases hs : f.serves .neg with
    | none => exact low (by rw [served_of_none hs, up])
    | some c =>
      obtain ⟨b, hb⟩ := (value_domain f.profile c (f.second.getD f.first)).1 .neg (by decide)
      have live : f.live .neg c = .flag b := hb
      rw [served_of_some hs, live] at low
      have down : b = false := by
        cases b
        · rfl
        · exact absurd rfl low
      exact kept (by simp [FetchResult.negFalse, hs, live, down])

/-- R7, R15: a fetch that leaves LINK other than up shows the bad value, or does not serve LINK. -/
theorem link_down_shown {f : FetchResult} {old : Option ItemValue} (h : served f .link old ≠ some (.flag true)) :
    showsBad f .link = true ∨ old ≠ some (.flag true) := by
  cases hs : f.serves .link with
  | none =>
    rw [served_of_none hs] at h
    exact .inr h
  | some c =>
    obtain ⟨b, hb⟩ := (value_domain f.profile c (f.second.getD f.first)).1 .link (by decide)
    have live : f.live .link c = .flag b := hb
    rw [served_of_some hs, live] at h
    left
    rw [showsBad_of_some hs, bad_iff (v := .flag false) (by simp [badValue]), live]
    cases b
    · exact .inl rfl
    · exact absurd rfl h

/-- R7, R16: a fetch that leaves RFAULT true shows the bad value, or does not serve RFAULT. -/
theorem rfault_true_shown {f : FetchResult} {old : Option ItemValue} (h : served f .rfault old = some (.flag true)) :
    showsBad f .rfault = true ∨ old = some (.flag true) := by
  cases hs : f.serves .rfault with
  | none =>
    rw [served_of_none hs] at h
    exact .inr h
  | some c =>
    rw [served_of_some hs, Option.some.injEq] at h
    left
    rw [showsBad_of_some hs, bad_iff (v := .flag true) (by simp [badValue])]
    exact .inl h

/-- R11 to R18: a fetch result applied to a bound port keeps the law of its record. -/
theorem recordLaw_fetched {r : PortRec} (h : RecordLaw r) (hb : r.bound = true) (f : FetchResult) :
    RecordLaw (fetched f r) where
  bound := h.bound
  down := by
    intro _ low
    obtain shown | was := link_down_shown low
    · simp [fetched, shown]
    · simp [fetched, h.down hb was]
  fault := by
    intro _ up
    obtain shown | was := rfault_true_shown up
    · simp [fetched, shown]
    · simp [fetched, h.fault hb was]
  partner := partner_under_neg h.partner
  domain :=
    { link := isFlag_served (by decide) h.domain.link
      neg := isFlag_served (by decide) h.domain.neg
      speed := by
        have was := h.domain.speed
        simp only [fetched, served]
        split
        · rfl
        · exact was
      duplex := isFlag_served (by decide) h.domain.duplex
      rfault := isFlag_served (by decide) h.domain.rfault
      partner := by
        have was := h.domain.partner
        simp only [fetched, partnerAfter]
        split
        · rfl
        · split
          · unfold served
            split
            · rfl
            · exact was
          · exact was
      energy := isFlag_served (by decide) h.domain.energy
      count := by
        have was := h.domain.count
        simp only [fetched, countAfter]
        split
        · rfl
        · exact was }
  retry := h.retry
  lost := h.lost
  unbound := fun free => absurd (hb.symm.trans free) (by decide)

/-- R5: an empty mirror is of every domain. -/
theorem domainLaw_none : DomainLaw (PerItem.const none) := ⟨rfl, rfl, rfl, rfl, rfl, rfl, rfl, rfl⟩

/-- R5, R7: a clearing of the live mirror keeps the law. -/
theorem recordLaw_cleared {r : PortRec} (h : RecordLaw r) : RecordLaw (cleared r) where
  bound := h.bound
  down := fun _ _ => rfl
  fault := fun _ up => absurd up (by simp [cleared, PerItem.const])
  partner := fun some_value => absurd some_value (by simp [cleared, PerItem.const])
  domain := domainLaw_none
  retry := h.retry
  lost := h.lost
  unbound := fun _ => rfl

/-- R47: a transition between bound states, whose own effects leave binding, mirror and sticky flags, keeps the law. -/
theorem recordLaw_moved {r r' : PortRec} (h : RecordLaw r) (hb : r.bound = true) (hb' : r'.bound = true)
    (binding : r'.binding = r.binding) (mirror : r'.mirror = r.mirror) (down : r'.stickyDown = r.stickyDown)
    (fault : r'.stickyFault = r.stickyFault) (retry : r'.probeRetry = none)
    (lost : r'.lostCheck.isSome = true → r'.state = .lost) : RecordLaw r' where
  bound := by rw [binding, h.bound, hb, hb']
  down := by
    rw [mirror, down]
    exact fun _ => h.down hb
  fault := by
    rw [mirror, fault]
    exact fun _ => h.fault hb
  partner := by
    rw [mirror]
    exact h.partner
  domain := mirror ▸ h.domain
  retry := fun running => absurd running (by simp [retry])
  lost := lost
  unbound := fun free => absurd (hb'.symm.trans free) (by decide)

/-- R26: the record of an UNBOUND port. -/
theorem recordLaw_unbound {r : PortRec} (state : r.state = .unbound) (binding : r.binding = none)
    (mirror : r.mirror = .const none) (retry : r.probeRetry = none) (lost : r.lostCheck = none) : RecordLaw r where
  bound := by simp [binding, PortRec.bound, state]
  down := fun hb => absurd hb (by simp [PortRec.bound, state])
  fault := fun hb => absurd hb (by simp [PortRec.bound, state])
  partner := fun some_value => absurd some_value (by simp [mirror, PerItem.const])
  domain := mirror ▸ domainLaw_none
  retry := fun running => absurd running (by simp [retry])
  lost := fun running => absurd running (by simp [lost])
  unbound := fun _ => mirror

/-! ### The law of the Port Table -/

/-- What a claim other than BIND makes of one record keeps the laws of the Port Table: the record's own law, its counts
within limits, and no binding but the one it had. -/
structure RecordKept (t : PortTable) (r r' : PortRec) : Prop where
  law : RecordLaw r → RecordLaw r'
  misses : r.missCount ≤ t.missLimit → r'.missCount ≤ t.missLimit
  attempts : r.attemptCount ≤ t.attemptLimit → r'.attemptCount ≤ t.attemptLimit
  binding : r'.bound = true → r.bound = true ∧ r'.binding = r.binding

theorem recordKept_trans {t : PortTable} {r r' r'' : PortRec} (a : RecordKept t r r') (b : RecordKept t r' r'') :
    RecordKept t r r'' where
  law := b.law ∘ a.law
  misses := b.misses ∘ a.misses
  attempts := b.attempts ∘ a.attempts
  binding := fun h =>
    have ⟨h', e'⟩ := b.binding h
    have ⟨h'', e''⟩ := a.binding h'
    ⟨h'', e'.trans e''⟩

theorem recordKept_reported (t : PortTable) (r : PortRec) (b : Bool) : RecordKept t r (reported r b) :=
  ⟨fun h => recordLaw_reported h b, id, id, fun h => ⟨h, rfl⟩⟩

/-- Reading the records after one has been written. -/
theorem getElem_set_port (v : Vector PortRec 24) (p q : PortId) (r : PortRec) :
    (v.set p r)[q] = if q = p then r else v[q] := by
  by_cases h : q = p
  · subst h
    simp
  · have : (p : Nat) ≠ q := fun e => h (Fin.ext e.symm)
    simp [h, Vector.getElem_set_ne, this]

/-- One record changed within `RecordKept` keeps the laws of the Port Table. -/
theorem portLaw_set {t : PortTable} (h : PortLaw t) {p : PortId} {r : PortRec} (kept : RecordKept t t.ports[p] r) :
    PortLaw { t with ports := t.ports.set p r } where
  records := by
    intro q
    simp only [getElem_set_port]
    split
    · exact kept.law (h.records p)
    · exact h.records q
  limits :=
    { miss := h.limits.miss
      attempt := h.limits.attempt
      retry := h.limits.retry
      lost := h.limits.lost
      counts := by
        intro q
        simp only [getElem_set_port]
        split
        · exact ⟨kept.misses (h.limits.counts p).1, kept.attempts (h.limits.counts p).2⟩
        · exact h.limits.counts q }
  unique := by
    have was : ∀ q : PortId, (t.ports.set p r)[q].bound = true →
        t.ports[q].bound = true ∧ (t.ports.set p r)[q].binding = t.ports[q].binding := by
      intro q
      rw [getElem_set_port]
      split
      · next hq =>
        subst hq
        exact kept.binding
      · exact fun hb => ⟨hb, rfl⟩
    intro q q' hq hq' same
    obtain ⟨bq, eq⟩ := was q hq
    obtain ⟨bq', eq'⟩ := was q' hq'
    refine h.unique q q' bq bq' ?_
    rwa [← eq, ← eq']

end Sys2Proof.Laws
end

section
/-! PROOFS. What the work of the part keeps: posting, observations, transitions, the outcomes of jobs, the ends of frames and
the decisions that follow change no block but the records, the event block, the flash machines, the channels and the
completion queue, and keep the laws of the first two (`Ongoing`). -/
namespace Sys2Proof.Laws

open Sys2Proof.Machine Sys2Proof.Safety

/-- `t` is `s` after work of the part that binds no port, takes no command and resets nothing. -/
structure Ongoing (s t : State) : Prop where
  rstnLow : t.rstnLow = s.rstnLow
  ps : t.ps = s.ps
  att : t.att = s.att
  cu : t.cu = s.cu
  spi : t.spi = s.spi
  stamp : t.stamp = s.stamp
  pending : t.pending = s.pending
  limits : t.pt = { s.pt with ports := t.pt.ports }
  engine : t.ie = { s.ie with flash := t.ie.flash }
  outstanding : t.ht.outstanding = s.ht.outstanding
  hostView : t.ht.view = s.ht.view
  eventView : t.ev.view = s.ev.view
  events : EventLaw s.ev → EventLaw t.ev
  records : PortLaw s.pt → PortLaw t.pt
  bindings : ∀ p, (t.port p).bound = true → (s.port p).bound = true ∧ (t.port p).binding = (s.port p).binding

theorem Ongoing.refl (s : State) : Ongoing s s :=
  ⟨rfl, rfl, rfl, rfl, rfl, rfl, rfl, rfl, rfl, rfl, rfl, rfl, id, id, fun _ h => ⟨h, rfl⟩⟩

theorem Ongoing.trans {s t u : State} (a : Ongoing s t) (b : Ongoing t u) : Ongoing s u where
  rstnLow := b.rstnLow.trans a.rstnLow
  ps := b.ps.trans a.ps
  att := b.att.trans a.att
  cu := b.cu.trans a.cu
  spi := b.spi.trans a.spi
  stamp := b.stamp.trans a.stamp
  pending := b.pending.trans a.pending
  limits := by rw [b.limits, a.limits]
  engine := by rw [b.engine, a.engine]
  outstanding := b.outstanding.trans a.outstanding
  hostView := b.hostView.trans a.hostView
  eventView := b.eventView.trans a.eventView
  events := b.events ∘ a.events
  records := b.records ∘ a.records
  bindings := fun p h =>
    have ⟨h', e'⟩ := b.bindings p h
    have ⟨h'', e''⟩ := a.bindings p h'
    ⟨h'', e'.trans e''⟩

/-! ### Channels and completions -/

/-- The frame of a decision, of a host unit's end, and of every other claim on one channel. -/
theorem OnChannel.ongoing {s t : State} {ch : Chan} (h : OnChannel s t ch) : Ongoing s t where
  rstnLow := h.rstnLow
  ps := h.ps
  att := h.att
  cu := h.cu
  spi := h.spi
  stamp := h.stamp
  pending := h.pending
  limits := by rw [h.pt]
  engine := by rw [h.ie]
  outstanding := h.outstanding
  hostView := h.view
  eventView := by rw [h.ev]
  events := by rw [h.ev]; exact id
  records := by rw [h.pt]; exact id
  bindings := by
    have same : ∀ p, t.port p = s.port p := fun p => by simp only [State.port, h.pt]
    exact fun p hb => by simpa [same] using hb

theorem ongoing_modChan (s : State) (ch : Chan) (f : Channel → Channel) : Ongoing s (s.modChan ch f) :=
  (OnChannel.modChan s ch f).ongoing

theorem ongoing_modSched (s : State) (ch : Chan) (f : Scheduler → Scheduler) : Ongoing s (s.modSched ch f) :=
  ongoing_modChan ..

theorem ongoing_schedOf (s : State) (b : Option Binding) (f : Scheduler → Scheduler) : Ongoing s (s.schedOf b f) := by
  cases b with
  | none => exact Ongoing.refl s
  | some b => exact ongoing_modSched ..

theorem ongoing_markStale (s : State) (p : PortId) : Ongoing s (s.markStale p) :=
  ⟨rfl, rfl, rfl, rfl, rfl, rfl, rfl, rfl, rfl, rfl, rfl, rfl, id, id, fun _ h => ⟨h, rfl⟩⟩

theorem ongoing_completions (s : State) (l : List Completion) :
    Ongoing s { s with ht := { s.ht with completions := l } } :=
  ⟨rfl, rfl, rfl, rfl, rfl, rfl, rfl, rfl, rfl, rfl, rfl, rfl, id, id, fun _ h => ⟨h, rfl⟩⟩

theorem ongoing_endHost (s : State) (ch : Chan) (l : List Completion) : Ongoing s (s.endHost ch l) :=
  (onChannel_endHost s ch l).ongoing

theorem ongoing_hostProceed (s : State) (ch : Chan) (done : List Completion) (todo : List HostTxn) :
    Ongoing s (s.hostProceed ch done todo) :=
  (onChannel_hostProceed s ch done todo).ongoing

theorem ongoing_notice (s : State) (ch : Chan) : Ongoing s (s.notice ch) :=
  (onChannel_decideLoop s ch _).ongoing

theorem ongoing_noticeOf (s : State) (b : Option Binding) : Ongoing s (s.noticeOf b) := by
  cases b with
  | none => exact Ongoing.refl s
  | some b => exact ongoing_notice ..

/-! ### Records and events -/

/-- One record changed within `RecordKept`. -/
theorem ongoing_setPort {s : State} {p : PortId} {r : PortRec} (kept : RecordKept s.pt (s.port p) r) :
    Ongoing s (s.setPort p r) where
  rstnLow := rfl
  ps := rfl
  att := rfl
  cu := rfl
  spi := rfl
  stamp := rfl
  pending := rfl
  limits := rfl
  engine := rfl
  outstanding := rfl
  hostView := rfl
  eventView := rfl
  events := id
  records := fun h => portLaw_set h kept
  bindings := by
    intro q
    rw [State.port_setPort]
    split
    · next hq =>
      subst hq
      exact kept.binding
    · exact fun hb => ⟨hb, rfl⟩

theorem ongoing_modPort {s : State} {p : PortId} {f : PortRec → PortRec}
    (kept : RecordKept s.pt (s.port p) (f (s.port p))) : Ongoing s (s.modPort p f) := ongoing_setPort kept

/-- R151: events taken in the event block leave the view. -/
theorem view_take (e : EventBlock) (b : EventBody) (stamp : Word) : (e.take b stamp).1.view = e.view := by
  obtain ⟨-, h⟩ | ⟨-, -, h⟩ | ⟨-, -, h⟩ := take_cases e b stamp <;> rw [h] <;> rfl

/-- The event block replaced by one that keeps the laws and the view. -/
theorem ongoing_events {s : State} {e : EventBlock} (view : e.view = s.ev.view) (law : EventLaw s.ev → EventLaw e) :
    Ongoing s { s with ev := e } :=
  ⟨rfl, rfl, rfl, rfl, rfl, rfl, rfl, rfl, rfl, rfl, rfl, view, law, id, fun _ h => ⟨h, rfl⟩⟩

theorem ongoing_take (s : State) (b : EventBody) (stamp : Word) :
    Ongoing s { s with ev := (s.ev.take b stamp).1 } :=
  ongoing_events (view_take ..) fun h => eventLaw_take h b stamp

theorem ongoing_post (s : State) (b : EventBody) : Ongoing s (s.post b) := by
  cases hp : b.port? with
  | none =>
    rw [post_of_none s b hp]
    exact ongoing_take ..
  | some p =>
    rw [post_of_port s b p hp]
    exact (ongoing_take s b s.stamp).trans (ongoing_setPort (s := { s with ev := _ }) (recordKept_reported ..))

theorem view_posted (stamp : Word) (l : List EventBody) (e : EventBlock) : (posted e stamp l).1.view = e.view := by
  induction l generalizing e with
  | nil => rfl
  | cons b l ih => exact (ih _).trans (view_take e b stamp)

theorem eventLaw_posted (stamp : Word) (l : List EventBody) {e : EventBlock} (h : EventLaw e) :
    EventLaw (posted e stamp l).1 := by
  induction l generalizing e with
  | nil => exact h
  | cons b l ih => exact ih (eventLaw_take h b stamp)

/-- A record changed within `RecordKept`, with events of it posted. -/
theorem ongoing_onRecord {s : State} {p : PortId} {r : PortRec} (kept : RecordKept s.pt (s.port p) r)
    (l : List EventBody) : Ongoing s (onRecord s p r l) :=
  (ongoing_events (s := s) (view_posted s.stamp l s.ev) fun h => eventLaw_posted s.stamp l h).trans
    (ongoing_setPort (s := { s with ev := _ }) (recordKept_trans kept (recordKept_reported ..)))

theorem ongoing_clearLive (s : State) (p : PortId) : Ongoing s (s.clearLive p) := by
  rw [clearLive_eq]
  exact ongoing_onRecord ⟨recordLaw_cleared, id, id, fun h => ⟨h, rfl⟩⟩ _

theorem ongoing_flash (s : State) (v : Vector FlashMachine 24) :
    Ongoing s { s with ie := { s.ie with flash := v } } :=
  ⟨rfl, rfl, rfl, rfl, rfl, rfl, rfl, rfl, rfl, rfl, rfl, rfl, id, id, fun _ h => ⟨h, rfl⟩⟩

/-- R11, R12: a fetch result applied to a bound port. -/
theorem ongoing_applyFetch {s : State} {f : FetchResult} (hb : (s.port f.port).bound = true) :
    Ongoing s (s.applyFetch f) := by
  have items : Ongoing s (Item.all.foldl (State.applyItem f) s) := by
    rw [applyItems_eq]
    exact ongoing_onRecord ⟨fun h => recordLaw_fetched h hb f, id, id, fun h => ⟨h, rfl⟩⟩ _
  unfold State.applyFetch
  dsimp only
  split
  · exact items.trans (ongoing_flash ..)
  · exact items

theorem bound_of_state {r : PortRec} {q : PortState} (h : r.state = q) (hq : q ≠ .unbound) : r.bound = true := by
  simp [PortRec.bound, h, hq]

theorem ongoing_takeFetch (s : State) {need : PortState} (hneed : need ≠ .unbound) (f : FetchResult) :
    Ongoing s (s.takeFetch need f) := by
  unfold State.takeFetch
  split
  · next h => exact ongoing_applyFetch (bound_of_state h hneed)
  · exact Ongoing.refl s

/-! ### Transitions -/

/-- R47: the record that a transition leaves, but for RESYNC. -/
def moved (s : State) (p : PortId) (new : PortState) (why : Option Reason) (eff : PortRec → PortRec) : PortRec :=
  { eff (s.port p) with
    state := new, reason := why, probeRetry := none
    lostCheck := if new = .lost then some s.pt.lostInterval else none }

theorem ongoing_transition {s : State} {p : PortId} {new : PortState} {why : Option Reason} {eff : PortRec → PortRec}
    (kept : RecordKept s.pt (s.port p) (moved s p new why eff)) : Ongoing s (s.transition p new why eff) :=
  (((ongoing_setPort kept).trans (ongoing_markStale ..)).trans (ongoing_schedOf ..)).trans (ongoing_schedOf ..)
    |>.trans (ongoing_post ..)

/-- R47: the own effects of a transition between bound states leave binding, mirror and sticky flags, and raise no
count. -/
structure MildEffect (r r' : PortRec) : Prop where
  binding : r'.binding = r.binding
  mirror : r'.mirror = r.mirror
  down : r'.stickyDown = r.stickyDown
  fault : r'.stickyFault = r.stickyFault
  misses : r'.missCount ≤ r.missCount
  attempts : r'.attemptCount ≤ r.attemptCount

theorem recordKept_moved {s : State} {p : PortId} {new : PortState} {why : Option Reason} {eff : PortRec → PortRec}
    (hb : (s.port p).bound = true) (hnew : new ≠ .unbound) (mild : MildEffect (s.port p) (eff (s.port p))) :
    RecordKept s.pt (s.port p) (moved s p new why eff) where
  law := fun h => recordLaw_moved h hb (bound_of_state rfl hnew) mild.binding mild.mirror mild.down mild.fault rfl (by
    simp only [moved]
    split <;> simp_all)
  misses := fun h => mild.misses.trans h
  attempts := fun h => mild.attempts.trans h
  binding := fun _ => ⟨hb, mild.binding⟩

/-- R47: a transition between bound states. -/
theorem ongoing_transition_of_bound {s : State} {p : PortId} {new : PortState} (why : Option Reason)
    (eff : PortRec → PortRec) (hb : (s.port p).bound = true) (hnew : new ≠ .unbound)
    (mild : MildEffect (s.port p) (eff (s.port p))) : Ongoing s (s.transition p new why eff) :=
  ongoing_transition (recordKept_moved hb hnew mild)

theorem mildEffect_id (r : PortRec) : MildEffect r (id r) := ⟨rfl, rfl, rfl, rfl, Nat.le_refl _, Nat.le_refl _⟩

/-- R55, R61, R63: the attempt count returned to 0. -/
theorem mildEffect_attempts (r : PortRec) : MildEffect r { r with attemptCount := 0 } :=
  ⟨rfl, rfl, rfl, rfl, Nat.le_refl _, Nat.zero_le _⟩

/-- R56: the miss count returned to 0 and the record stamped. -/
theorem mildEffect_good (r : PortRec) (stamp : Option Word) : MildEffect r { r with missCount := 0, lastGood := stamp } :=
  ⟨rfl, rfl, rfl, rfl, Nat.zero_le _, Nat.le_refl _⟩

/-! ### Outcomes of jobs -/

/-- A record of a bound port with its counts and timers changed. -/
theorem recordKept_of_same {t : PortTable} {r r' : PortRec} (state : r'.state = r.state) (binding : r'.binding = r.binding)
    (mirror : r'.mirror = r.mirror) (down : r'.stickyDown = r.stickyDown) (fault : r'.stickyFault = r.stickyFault)
    (misses : r.missCount ≤ t.missLimit → r'.missCount ≤ t.missLimit)
    (attempts : r.attemptCount ≤ t.attemptLimit → r'.attemptCount ≤ t.attemptLimit)
    (retry : r'.probeRetry = r.probeRetry ∨ r'.probeRetry = none ∨ r.state = .probing)
    (lost : r'.lostCheck = r.lostCheck ∨ r'.lostCheck = none ∨ r.state = .lost) : RecordKept t r r' where
  law := fun h => recordLaw_of_same h state binding mirror down fault
    (by
      obtain same | stopped | probing := retry
      · rw [same]
        exact h.retry
      · simp [stopped]
      · exact fun _ => probing)
    (by
      obtain same | stopped | is_lost := lost
      · rw [same]
        exact h.lost
      · simp [stopped]
      · exact fun _ => is_lost)
  misses := misses
  attempts := attempts
  binding := fun h => ⟨by simpa [PortRec.bound, state] using h, binding⟩

theorem count_le_limit {n limit : Nat} (h : n ≤ limit) : (if n < limit then n + 1 else n) ≤ limit := by
  split <;> omega

theorem bound_clearLive (s : State) (p : PortId) : ((s.clearLive p).port p).bound = (s.port p).bound := by
  rw [clearLive_eq, port_onRecord]
  rfl

theorem ongoing_scanOutcome {s : State} {p : PortId} (h : (s.port p).state = .active) (o : JobOutcome) :
    Ongoing s (s.scanOutcome p o) := by
  have hb : (s.port p).bound = true := bound_of_state h (by decide)
  cases o with
  | good =>
    exact (ongoing_modPort (recordKept_of_same rfl rfl rfl rfl rfl (fun _ => Nat.zero_le _) id (.inl rfl)
      (.inl rfl))).trans (ongoing_markStale ..)
  | noAnswer =>
    have counted : Ongoing s (s.modPort p fun r =>
        { r with missCount := if r.missCount < s.pt.missLimit then r.missCount + 1 else r.missCount }) :=
      ongoing_modPort (recordKept_of_same rfl rfl rfl rfl rfl count_le_limit id (.inl rfl) (.inl rfl))
    simp only [State.scanOutcome]
    split
    · refine (counted.trans (ongoing_clearLive ..)).trans (ongoing_transition_of_bound _ id ?_ (by decide) (mildEffect_id _))
      rw [bound_clearLive, State.port_modPort_self]
      exact hb
    · exact counted.trans (ongoing_markStale ..)
  | markerMismatch =>
    simp only [State.scanOutcome]
    refine (ongoing_clearLive s p).trans
      (ongoing_transition_of_bound _ (fun r => { r with attemptCount := 0 }) ?_ (by decide) (mildEffect_attempts _))
    rw [bound_clearLive]
    exact hb
  | _ => exact Ongoing.refl s

theorem ongoing_probeFailed {s : State} {p : PortId} (h : (s.port p).state = .probing) (why : Reason) :
    Ongoing s (s.probeFailed p why) := by
  have counted : Ongoing s (s.modPort p fun r =>
      { r with attemptCount := if r.attemptCount < s.pt.attemptLimit then r.attemptCount + 1 else r.attemptCount }) :=
    ongoing_modPort (recordKept_of_same rfl rfl rfl rfl rfl id count_le_limit (.inl rfl) (.inl rfl))
  have probing : ((s.modPort p fun r =>
      { r with attemptCount := if r.attemptCount < s.pt.attemptLimit then r.attemptCount + 1
        else r.attemptCount }).port p).state = .probing := by
    rw [State.port_modPort_self]
    exact h
  simp only [State.probeFailed]
  split
  · exact counted.trans
      (ongoing_transition_of_bound _ id (bound_of_state probing (by decide)) (by decide) (mildEffect_id _))
  · exact (counted.trans (ongoing_modPort (recordKept_of_same rfl rfl rfl rfl rfl id id (.inr (.inr probing))
      (.inl rfl)))).trans (ongoing_markStale ..)

theorem ongoing_probeOutcome {s : State} {p : PortId} (h : (s.port p).state = .probing) (o : JobOutcome) :
    Ongoing s (s.probeOutcome p o) := by
  have hb : (s.port p).bound = true := bound_of_state h (by decide)
  cases o with
  | good =>
    exact ongoing_transition_of_bound _ (fun r => { r with missCount := 0, lastGood := some s.stamp }) hb (by decide)
      (mildEffect_good _ _)
  | noAnswer => exact ongoing_probeFailed h _
  | setup => exact ongoing_probeFailed h _
  | identity => exact ongoing_transition_of_bound _ id hb (by decide) (mildEffect_id _)
  | busFault => exact ongoing_schedOf ..
  | aborted => exact ongoing_schedOf ..
  | markerMismatch => exact Ongoing.refl s

theorem ongoing_presenceOutcome {s : State} {p : PortId} (h : (s.port p).state = .lost) (o : JobOutcome) :
    Ongoing s (s.presenceOutcome p o) := by
  have hb : (s.port p).bound = true := bound_of_state h (by decide)
  cases o with
  | good =>
    exact ongoing_transition_of_bound _ (fun r => { r with attemptCount := 0 }) hb (by decide) (mildEffect_attempts _)
  | noAnswer =>
    exact (ongoing_modPort (recordKept_of_same rfl rfl rfl rfl rfl id id (.inl rfl) (.inr (.inr h)))).trans
      (ongoing_markStale ..)
  | busFault => exact ongoing_schedOf ..
  | aborted => exact ongoing_schedOf ..
  | _ => exact Ongoing.refl s

theorem needs_ne_unbound (k : DeviceKind) : k.needs ≠ .unbound := by cases k <;> decide

theorem ongoing_jobOutcome (s : State) (j : Job) (o : JobOutcome) : Ongoing s (s.jobOutcome j o) := by
  unfold State.jobOutcome
  split
  · exact Ongoing.refl s
  · next taken =>
    have state : (s.port j.port).state = j.kind.needs := by
      by_contra other
      exact taken (by simp [other])
    split
    · next kind => exact ongoing_probeOutcome (by rw [state, kind]; rfl) o
    · next kind => exact ongoing_presenceOutcome (by rw [state, kind]; rfl) o
    · next probe presence =>
      refine ongoing_scanOutcome ?_ o
      rw [state]
      cases hk : j.kind <;> simp_all [DeviceKind.needs]

theorem ongoing_endJob (s : State) (ch : Chan) (j : Job) (o : JobOutcome) : Ongoing s (s.endJob ch j o) :=
  (ongoing_jobOutcome s j o).trans (ongoing_modChan ..)

/-! ### Ends of frames -/

theorem ongoing_storeIdentity (s : State) (j : Job) (v : Identity) : Ongoing s (s.storeIdentity j v) := by
  unfold State.storeIdentity
  split
  · exact ongoing_modPort (recordKept_of_same rfl rfl rfl rfl rfl id id (.inl rfl) (.inl rfl))
  · exact Ongoing.refl s

theorem ongoing_pieceResult (s : State) (j : Job) (a : Access) : Ongoing s (s.pieceResult j a) := by
  unfold State.pieceResult
  split
  · exact Ongoing.refl s
  · split
    · exact ongoing_storeIdentity ..
    · exact ongoing_takeFetch s (needs_ne_unbound _) _
    · exact Ongoing.refl s

theorem ongoing_continueJob (s : State) (ch : Chan) (j : Job) : Ongoing s (s.continueJob ch j) := by
  unfold State.continueJob
  split
  · exact ongoing_endJob ..
  · exact ongoing_modChan ..

theorem ongoing_pieceEnd (s : State) (ch : Chan) (j : Job) (a : Access) : Ongoing s (s.pieceEnd ch j a) := by
  unfold State.pieceEnd
  dsimp only
  split
  · exact (ongoing_pieceResult ..).trans (ongoing_endJob ..)
  · exact (ongoing_pieceResult ..).trans (ongoing_continueJob ..)

theorem ongoing_jobFrameEnd (s : State) (ch : Chan) (j : Job) (res : FrameResult) :
    Ongoing s (s.jobFrameEnd ch j res) := by
  unfold State.jobFrameEnd
  dsimp only
  split
  · exact ongoing_pieceEnd ..
  · exact ongoing_modChan ..

theorem ongoing_absorbRaw (s : State) (ch : Chan) (device reg : BusAddr) (w : Word) :
    Ongoing s (s.absorbRaw ch device reg w) := by
  unfold State.absorbRaw
  split
  · exact Ongoing.refl s
  · split
    · exact Ongoing.refl s
    · split
      · exact Ongoing.refl s
      · split
        · exact ongoing_takeFetch s (by decide) _
        · exact Ongoing.refl s

theorem ongoing_absorb (s : State) (ch : Chan) (m : HostMember) (a : Access) : Ongoing s (s.absorb ch m a) := by
  unfold State.absorb
  split
  · exact Ongoing.refl s
  · split
    · exact ongoing_absorbRaw ..
    · split
      · exact Ongoing.refl s
      · exact ongoing_takeFetch s (by decide) _
    · exact Ongoing.refl s

theorem ongoing_hostFrameEnd (s : State) (ch : Chan) (r : HostRun) (res : FrameResult) :
    Ongoing s (s.hostFrameEnd ch r res) := by
  unfold State.hostFrameEnd
  dsimp only
  split
  · exact (ongoing_absorb ..).trans (ongoing_hostProceed ..)
  · exact ongoing_modChan ..

theorem ongoing_unitFrameEnd (s : State) (ch : Chan) (res : FrameResult) : Ongoing s (s.unitFrameEnd ch res) := by
  unfold State.unitFrameEnd
  split
  · exact Ongoing.refl s
  · exact ongoing_jobFrameEnd ..
  · exact ongoing_hostFrameEnd ..

theorem ongoing_cutUnit (s : State) (ch : Chan) (o : JobOutcome) (res : HostResult) :
    Ongoing s (s.cutUnit ch o res) := by
  unfold State.cutUnit
  split
  · exact Ongoing.refl s
  · exact ongoing_endJob ..
  · exact ongoing_endHost ..

theorem ongoing_abortFrameEnd (s : State) (ch : Chan) (res : FrameResult) : Ongoing s (s.abortFrameEnd ch res) := by
  unfold State.abortFrameEnd
  split
  · exact Ongoing.refl s
  · dsimp only
    split
    · exact (ongoing_pieceResult ..).trans (ongoing_endJob ..)
    · exact ongoing_endJob ..
  · dsimp only
    split
    · exact (ongoing_absorb ..).trans (ongoing_endHost ..)
    · exact ongoing_cutUnit ..

theorem ongoing_abortDrainEnd (s : State) (ch : Chan) : Ongoing s (s.abortDrainEnd ch) :=
  (ongoing_completions ..).trans (ongoing_modChan ..)

theorem ongoing_beginAbort (s : State) (ch : Chan) : Ongoing s (s.beginAbort ch).1 := by
  unfold State.beginAbort
  split
  · split
    · exact ongoing_modChan s ch fun c => { c with state := .draining, drain := .abort }
    · exact ((ongoing_modChan ..).trans (ongoing_cutUnit ..)).trans (ongoing_abortDrainEnd ..)
  · exact (ongoing_cutUnit ..).trans (ongoing_abortDrainEnd ..)

end Sys2Proof.Laws
end

section
/-! PROOFS. Rows and the words that they stand for (R175, R178, R183): every row is a row of its own kind, and what a row does
before its owner takes it. -/
namespace Sys2Proof.Laws

open Sys2Proof.Machine Sys2Proof.Safety

/-! ### A step -/

/-- Settles O1: the two branches of a step. -/
theorem stepTakesFrontCommand : Obligations.StepTakesFrontCommand := by
  refine ⟨fun s c rest h => ?_, fun s h => ?_⟩ <;> simp [step, h]

/-! ### Rows as commands and checked writes -/

/-- R183, R188: a row of the command set is a write of the command register, for some owner. -/
theorem exec_of_commandOf {i : Instr} {hi code : BitVec 8} (h : commandOf i = some (hi, code)) :
    ∃ d : Delivery, ∀ s : State, exec i s = s.live fun s => s.command hi code d := by
  cases i <;> simp only [commandOf, reduceCtorEq, Option.some.injEq, Prod.mk.injEq] at h <;>
    obtain ⟨rfl, rfl⟩ := h <;> exact ⟨_, fun _ => rfl⟩

/-- R186: a row of checked writes is a checked write of its register, for some owner. -/
theorem exec_of_checkedOf {i : Instr} {a : BitVec 7} (h : checkedOf i = some a) :
    ∃ d : Delivery, ∀ s : State, exec i s = s.live fun s => s.checkedWrite a d := by
  unfold checkedOf at h
  split at h <;> simp only [reduceCtorEq, Option.some.injEq] at h <;> subst h <;> exact ⟨_, fun _ => rfl⟩

/-- Settles O5: every command and every checked write is refused with BUSY. -/
theorem timedCommandRefusesWithBusy : Obligations.TimedCommandRefusesWithBusy := by
  refine fun i s running busy => ⟨fun hi code h => ?_, fun a h => ?_⟩
  · obtain ⟨d, row⟩ := exec_of_commandOf h
    rw [row, live_of_running running, command_busy busy]
  · obtain ⟨d, row⟩ := exec_of_checkedOf h
    rw [row, live_of_running running, checkedWrite_busy busy]

/-- R176: a row other than those of RSTN acts only with RSTN high. -/
theorem exec_live {i : Instr} (h : isReset i = false) : ∃ f : State → State, ∀ s : State, exec i s = s.live f := by
  cases i <;> first | exact ⟨_, fun _ => rfl⟩ | exact absurd h (by decide)

/-- Settles O2: the two rows of RSTN, and every other row while it is low. -/
theorem resetPinTakesPowerOnValues : Obligations.ResetPinTakesPowerOnValues := by
  refine ⟨fun s => rfl, fun s => rfl, fun i s low other => ?_, fun s low => ?_, rfl⟩
  · obtain ⟨f, row⟩ := exec_live other
    rw [row, live_of_reset low]
  · simp [State.irqn, low]

/-! ### The rows that words are -/

/-- With RSTN high a row does what it means. -/
theorem exec_running {i : Instr} {s : State} (f : State → State) (row : exec i s = s.live f)
    (running : s.rstnLow = false) : exec i s = .next (f s) := row.trans (live_of_running running)

/-- With RSTN high a row of the command set is a write of the command register. -/
theorem exec_command {i : Instr} {s : State} {hi code : BitVec 8} {d : Delivery}
    (row : exec i s = s.live fun s => s.command hi code d) (running : s.rstnLow = false) :
    exec i s = .next (s.command hi code d) := exec_running (fun s => s.command hi code d) row running

/-- A command's owner is asked only of the state that the command is delivered in. -/
theorem command_congr {s : State} {hi code : BitVec 8} {d d' : Delivery}
    (h : d (delivered s hi code) = d' (delivered s hi code)) : s.command hi code d = s.command hi code d' := by
  have h' : d { s with cu := { s.cu with command := hi ++ code } } =
      d' { s with cu := { s.cu with command := hi ++ code } } := h
  simp only [State.command, h']

theorem eq_ofNat_of_toNat {n : Nat} {x : BitVec n} {k : Nat} (h : x.toNat = k) : x = BitVec.ofNat n k := by
  rw [← h, BitVec.ofNat_toNat, BitVec.setWidth_eq]

/-- R119: CHANNEL_RESTART written as a word samples MDIO at the level last noted. -/
theorem commandOwner_restart (s : State) :
    commandOwner 19#8 s =
      takeChannelRestart (((chanOf s.argChannel).map fun ch => (s.chan ch).mdioHigh).getD true) s := by
  have owner : commandOwner 19#8 s = s.onNamedChannel fun ch => s.restartChannel (s.chan ch).mdioHigh ch := rfl
  rw [owner, takeChannelRestart]
  unfold State.onNamedChannel
  cases chanOf s.argChannel <;> rfl

/-- R183: the row of a command code is well formed, and does what a write of the command register does. -/
theorem exec_commandRow {s : State} (running : s.rstnLow = false) (hi code : BitVec 8) :
    (s.commandRow hi code).wellFormed = true ∧
      exec (s.commandRow hi code) s = .next (s.command hi code (commandOwner code)) := by
  unfold State.commandRow
  split
  case h_12 h =>
    obtain rfl := eq_ofNat_of_toNat h
    have owner : commandOwner 11#8 = takePost := rfl
    rw [owner]
    split
    · exact ⟨rfl, exec_command rfl running⟩
    · split <;> exact ⟨rfl, exec_command rfl running⟩
  case h_17 h =>
    obtain rfl := eq_ofNat_of_toNat h
    have owner : commandOwner 16#8 = takeSetRate := rfl
    rw [owner]
    split <;> exact ⟨rfl, exec_command rfl running⟩
  case h_18 h =>
    obtain rfl := eq_ofNat_of_toNat h
    have owner : commandOwner 17#8 = takeChannelEnable := rfl
    rw [owner]
    split <;> exact ⟨rfl, exec_command rfl running⟩
  case h_20 h =>
    obtain rfl := eq_ofNat_of_toNat h
    refine ⟨rfl, (exec_command rfl running).trans (congrArg Host.Outcome.next (command_congr ?_))⟩
    have chan : ∀ ch, (delivered s hi 19#8).chan ch = s.chan ch := delivered_chan s hi _
    refine Eq.trans ?_ (commandOwner_restart (delivered s hi 19#8)).symm
    simp only [chan, delivered_argChannel]
  case h_22 n0 n1 n2 n3 n4 n5 n6 n7 n8 n9 n10 n11 n12 n13 n14 n15 n16 n17 n18 n19 n20 =>
    refine ⟨decide_eq_true ?_, exec_command rfl running⟩
    simp only [imp_false] at *
    omega
  all_goals
    next h =>
      obtain rfl := eq_ofNat_of_toNat h
      exact ⟨rfl, exec_command rfl running⟩

/-- R178: the addresses with a row of their own. -/
theorem plainAddress_cases (a : BitVec 7) :
    plainAddress a = true ∨
      a ∈ [0x08#7, 0x09#7, 0x0A#7, 0x0B#7, 0x18#7, 0x19#7, 0x1A#7, 0x1B#7, 0x40#7, 0x41#7, 0x42#7, 0x43#7, 0x44#7,
        0x48#7, 0x49#7, 0x4A#7, 0x4B#7, 0x4C#7, 0x4D#7, 0x4E#7, 0x4F#7, 0x50#7, 0x51#7, 0x52#7, 0x53#7, 0x58#7, 0x59#7,
        0x5A#7, 0x5B#7, 0x60#7, 0x61#7, 0x62#7, 0x63#7, 0x66#7, 0x67#7] ∨ a = 0x12#7 := by
  revert a
  decide

/-- R175: a word written at an address without a row of its own is the row REGISTER_WRITE. -/
theorem writeRow_of_plain {s : State} {a : BitVec 7} (h : plainAddress a = true) (v : Word) :
    s.writeRow a v = .registerWrite a v := by
  simp only [plainAddress, Bool.not_eq_true', Bool.or_eq_false_iff, beq_eq_false_iff_ne, Bool.and_eq_false_iff,
    decide_eq_false_iff_not] at h
  unfold State.writeRow
  simp (disch := omega) only [if_neg, dif_neg]

/-- Settles O8: word by word at the addresses with a row of their own, REGISTER_WRITE at every other. -/
theorem writtenWordIsItsRow : Obligations.WrittenWordIsItsRow := by
  intro s a v running
  obtain plain | own | rfl := plainAddress_cases a
  · rw [writeRow_of_plain plain]
    exact ⟨plain, exec_running (fun s => s.writeWord a v) rfl running⟩
  · fin_cases own <;> exact ⟨rfl, exec_running (fun s => s.writeWord _ v) rfl running⟩
  · exact exec_commandRow running _ _

/-- Every row does what a row with the operands of its own kind does. -/
theorem exec_wellFormed (i : Instr) {s : State} (running : s.rstnLow = false) :
    ∃ i' : Instr, i'.wellFormed = true ∧ exec i s = exec i' s := by
  have own := writtenWordIsItsRow s
  cases i
  case registerWrite a v =>
    obtain ⟨formed, same⟩ := own a v running
    exact ⟨_, formed, (exec_running (fun s => s.writeWord a v) rfl running).trans same.symm⟩
  case unknownCommand hi code =>
    obtain ⟨formed, same⟩ := exec_commandRow running hi code
    exact ⟨_, formed, (exec_command rfl running).trans same.symm⟩
  all_goals exact ⟨_, rfl, rfl⟩

/-! ### NOP, unknown codes and plain writes -/

/-- R178: the argument words stand at 0CH to 11H, and an address elsewhere without a row of its own ignores a write. -/
theorem writeWord_of_plain {s : State} {a : BitVec 7} (h : plainAddress a = true) (v : Word) :
    s.writeWord a v =
      if h : 0x0C ≤ a.toNat ∧ a.toNat ≤ 0x11 then s.setArg ⟨a.toNat - 0x0C, by omega⟩ v else s := by
  simp only [plainAddress, Bool.not_eq_true', Bool.or_eq_false_iff, beq_eq_false_iff_ne, Bool.and_eq_false_iff,
    decide_eq_false_iff_not] at h
  unfold State.writeWord
  by_cases arg : 0x0C ≤ a.toNat ∧ a.toNat ≤ 0x11
  · simp (disch := omega) only [if_neg, dif_pos]
  · simp (disch := omega) only [if_neg, dif_neg]

/-- R182: an argument word reads back. -/
theorem readWord_argAddress (s : State) (n : Fin 6) : s.readWord (BitVec.ofNat 7 (0x0C + n.val)) = s.cu.args[n] := by
  fin_cases n <;> rfl

/-- Settles O7: NOP, a code above 20, an argument word, and an address without a row of its own. -/
theorem nopUnknownCodeAndPlainWrites : Obligations.NopUnknownCodeAndPlainWrites := by
  refine ⟨fun hi s ready => ?_, fun hi code s ready above => ?_, fun n v s running => ?_, fun a v s plain apart => ?_⟩
  · rw [exec_command rfl ready.rstn, command_ready ready]
    rfl
  · have owner : commandOwner code = fun s => (s, .badArg 14) := by
      unfold commandOwner
      split <;> first | omega | rfl
    rw [exec_command rfl ready.rstn, owner, command_ready ready]
    rfl
  · have written : s.writeWord (BitVec.ofNat 7 (0x0C + n.val)) v = s.setArg n v := by
      fin_cases n <;> rfl
    refine ⟨s.setArg n v, ?_, rfl, ?_, fun m hm => ?_⟩
    · rw [← written]
      exact exec_running (fun s => s.writeWord _ v) rfl running
    · rw [readWord_argAddress]
      simp [State.setArg]
    · have : n.val ≠ m.val := fun e => hm (Fin.ext e.symm)
      simp [State.setArg, Vector.getElem_set_ne, this]
  · have kept : s.writeWord a v = s := by rw [writeWord_of_plain plain, dif_neg (by omega)]
    cases low : s.rstnLow
    · rw [exec_running (fun s => s.writeWord a v) rfl low, kept]
    · exact live_of_reset (f := fun s => s.writeWord a v) low

end Sys2Proof.Laws
end

section
/-! PROOFS. What every row keeps: the laws of the event queue, of the port records, of the Indicator Engine and of the
staging record, the bindings of bound ports and the views (`Going`), but for the few rows that are there to change one of
these. -/
namespace Sys2Proof.Laws

open Sys2Proof.Machine Sys2Proof.Safety

/-- The laws of single blocks that `t` has when `s` has them. -/
structure LawsKept (s t : State) : Prop where
  events : EventLaw s.ev → EventLaw t.ev
  records : PortLaw s.pt → PortLaw t.pt
  engine : EngineLaw s.ie → EngineLaw t.ie
  staging : StagingLaw s.ps → StagingLaw t.ps

theorem LawsKept.refl (s : State) : LawsKept s s := ⟨id, id, id, id⟩

theorem LawsKept.trans {s t u : State} (a : LawsKept s t) (b : LawsKept t u) : LawsKept s u :=
  ⟨b.events ∘ a.events, b.records ∘ a.records, b.engine ∘ a.engine, b.staging ∘ a.staging⟩

/-- No port is bound, no binding changed and no profile installed from `s` to `t`. -/
structure BindingsKept (s t : State) : Prop where
  profiles : t.ps.profiles = s.ps.profiles
  bindings : ∀ p, (t.port p).bound = true → (s.port p).bound = true ∧ (t.port p).binding = (s.port p).binding

theorem BindingsKept.refl (s : State) : BindingsKept s s := ⟨rfl, fun _ h => ⟨h, rfl⟩⟩

theorem BindingsKept.trans {s t u : State} (a : BindingsKept s t) (b : BindingsKept t u) : BindingsKept s u where
  profiles := b.profiles.trans a.profiles
  bindings := fun p h =>
    have ⟨h', e'⟩ := b.bindings p h
    have ⟨h'', e''⟩ := a.bindings p h'
    ⟨h'', e'.trans e''⟩

/-- While no SOFT_RESET drains in `s` the three views are the same in `t`, and none drains in `t`. -/
structure ViewsKept (s t : State) : Prop where
  soft : s.cu.softResetting = false → t.cu.softResetting = false
  port : s.cu.softResetting = false → t.pt.view = s.pt.view
  event : s.cu.softResetting = false → t.ev.view = s.ev.view
  host : s.cu.softResetting = false → t.ht.view = s.ht.view

theorem ViewsKept.refl (s : State) : ViewsKept s s := ⟨id, fun _ => rfl, fun _ => rfl, fun _ => rfl⟩

theorem ViewsKept.trans {s t u : State} (a : ViewsKept s t) (b : ViewsKept t u) : ViewsKept s u where
  soft := fun h => b.soft (a.soft h)
  port := fun h => (b.port (a.soft h)).trans (a.port h)
  event := fun h => (b.event (a.soft h)).trans (a.event h)
  host := fun h => (b.host (a.soft h)).trans (a.host h)

/-- What every row keeps that binds no port, installs no profile, fills no view and takes no reset. -/
structure Going (s t : State) : Prop where
  laws : LawsKept s t
  bindings : BindingsKept s t
  views : ViewsKept s t

theorem Going.refl (s : State) : Going s s := ⟨.refl s, .refl s, .refl s⟩

theorem Going.trans {s t u : State} (a : Going s t) (b : Going t u) : Going s u :=
  ⟨a.laws.trans b.laws, a.bindings.trans b.bindings, a.views.trans b.views⟩

/-! ### The work of the part -/

/-- R165: flash machines are no part of the law of the engine. -/
theorem engineLaw_flash {e : IndicatorEngine} (h : EngineLaw e) (v : Vector FlashMachine 24) :
    EngineLaw { e with flash := v } := ⟨h.halves, h.pendings, h.width, h.length, h.refresh⟩

theorem Ongoing.going {s t : State} (h : Ongoing s t) : Going s t where
  laws :=
    { events := h.events
      records := h.records
      engine := by rw [h.engine]; exact fun law => engineLaw_flash law _
      staging := by rw [h.ps]; exact id }
  bindings := ⟨by rw [h.ps], h.bindings⟩
  views :=
    { soft := by rw [h.cu]; exact id
      port := fun _ => by rw [h.limits]
      event := fun _ => h.eventView
      host := fun _ => h.hostView }

/-! ### Blocks replaced -/

/-- The Command Unit replaced by one in which no SOFT_RESET has begun to drain. -/
theorem going_cu {s : State} {c : CommandUnit} (soft : s.cu.softResetting = false → c.softResetting = false) :
    Going s { s with cu := c } :=
  ⟨⟨id, id, id, id⟩, ⟨rfl, fun _ h => ⟨h, rfl⟩⟩, ⟨soft, fun _ => rfl, fun _ => rfl, fun _ => rfl⟩⟩

theorem going_ev {s : State} {e : EventBlock} (law : EventLaw s.ev → EventLaw e) (view : e.view = s.ev.view) :
    Going s { s with ev := e } :=
  ⟨⟨law, id, id, id⟩, ⟨rfl, fun _ h => ⟨h, rfl⟩⟩, ⟨id, fun _ => rfl, fun _ => view, fun _ => rfl⟩⟩

theorem going_ie {s : State} {e : IndicatorEngine} (law : EngineLaw s.ie → EngineLaw e) : Going s { s with ie := e } :=
  ⟨⟨id, id, law, id⟩, ⟨rfl, fun _ h => ⟨h, rfl⟩⟩, ⟨id, fun _ => rfl, fun _ => rfl, fun _ => rfl⟩⟩

theorem going_ps {s : State} {x : ProfileStore} (law : StagingLaw s.ps → StagingLaw x)
    (profiles : x.profiles = s.ps.profiles) : Going s { s with ps := x } :=
  ⟨⟨id, id, id, law⟩, ⟨profiles, fun _ h => ⟨h, rfl⟩⟩, ⟨id, fun _ => rfl, fun _ => rfl, fun _ => rfl⟩⟩

theorem going_att (s : State) (a : Attention) : Going s { s with att := a } :=
  ⟨⟨id, id, id, id⟩, ⟨rfl, fun _ h => ⟨h, rfl⟩⟩, ⟨id, fun _ => rfl, fun _ => rfl, fun _ => rfl⟩⟩

theorem going_outstanding (s : State) (n : Nat) : Going s { s with ht := { s.ht with outstanding := n } } :=
  ⟨⟨id, id, id, id⟩, ⟨rfl, fun _ h => ⟨h, rfl⟩⟩, ⟨id, fun _ => rfl, fun _ => rfl, fun _ => rfl⟩⟩

theorem going_showResult (s : State) (source : BitVec 8) (a : Answer) : Going s (s.showResult source a) :=
  going_cu (s := s) id

theorem going_delivered (s : State) (hi code : BitVec 8) : Going s (delivered s hi code) := going_cu (s := s) id

/-- R184: a timed command other than SOFT_RESET starts. -/
theorem going_startTimed (s : State) {code : BitVec 8} (h : code ≠ 20#8) (w0 w1 : Bool) :
    Going s (s.startTimed code w0 w1) :=
  going_cu (s := s) fun _ => by simp [CommandUnit.softResetting, h]

/-! ### Resets -/

/-- R26: the record of a port after a reset keeps its law. -/
theorem recordLaw_reset : RecordLaw PortRec.reset := recordLaw_unbound rfl rfl rfl rfl rfl

/-- R26: a Port Table of reset records keeps the laws within the limits in force. -/
theorem portLaw_reset {t : PortTable} (limits : LimitLaw t) (v : Option PortView) :
    PortLaw { t with ports := Vector.replicate 24 PortRec.reset, view := v } where
  records := fun p => by simpa using recordLaw_reset
  limits := ⟨limits.miss, limits.attempt, limits.retry, limits.lost, fun p => by simp [PortRec.reset]⟩
  unique := fun p q hp => by simp [PortRec.bound, PortRec.reset] at hp

/-- R155: an empty event queue. -/
theorem eventLaw_empty {e : EventBlock} (queue : e.queue = []) (timer : e.timer = .stopped)
    (threshold : 1 ≤ e.threshold ∧ e.threshold ≤ 64) : EventLaw e :=
  ⟨by simp [queue], by simp [queue], by simp [queue], threshold, by simp [queue, timer]⟩

/-- R173: SOFT_RESET restarts the generators. -/
theorem engineLaw_softReset {e : IndicatorEngine} (h : EngineLaw e) : EngineLaw e.softReset where
  halves := fun n => by simpa [IndicatorEngine.softReset, RateSlot.restarted] using h.halves n
  pendings := fun n => by simp [IndicatorEngine.softReset, RateSlot.restarted]
  width := h.width
  length := h.length
  refresh := h.refresh

/-- R190 (b): the reset of dynamic state keeps the laws. -/
theorem lawsKept_dynamicReset (s : State) : LawsKept s s.dynamicReset where
  events := fun h => eventLaw_empty rfl rfl h.threshold
  records := fun h => portLaw_reset h.limits none
  engine := engineLaw_softReset
  staging := id

/-- R26: after a reset of dynamic state no port is bound. -/
theorem bound_dynamicReset (s : State) (p : PortId) : (s.dynamicReset.port p).bound = false := by
  simp [State.dynamicReset, PortTable.softReset, State.port, PortRec.reset, PortRec.bound]

theorem bindingsKept_dynamicReset (s : State) : BindingsKept s s.dynamicReset :=
  ⟨rfl, fun p h => absurd ((bound_dynamicReset s p).symm.trans h) (by decide)⟩

/-- R172: the engine after power-on / RSTN. -/
theorem engineLaw_reset : EngineLaw IndicatorEngine.reset := by
  refine ⟨fun n => ?_, fun n => ?_, by decide, by decide, by decide⟩
  all_goals
    revert n
    decide

/-- R40: the staging record after power-on / RSTN. -/
theorem stagingLaw_reset : StagingLaw ProfileStore.reset :=
  ⟨by decide, fun i => by simp [ProfileStore.reset, Staging.zero, StagedRecipe.zero], by decide⟩

/-- R176: the laws after power-on / RSTN. -/
theorem lawsKept_powerOn (s : State) (low : Bool) : LawsKept s (s.powerOn low) where
  events := fun _ => eventLaw_empty rfl rfl (show 1 ≤ 1 ∧ 1 ≤ 64 by decide)
  records := fun _ => portLaw_reset (t := PortTable.reset)
    ⟨by decide, by decide, by decide, by decide, fun p => by simp [PortTable.reset, PortRec.reset]⟩ none
  engine := fun _ => engineLaw_reset
  staging := fun _ => stagingLaw_reset

/-- R26: after power-on / RSTN no port is bound. -/
theorem bound_powerOn (s : State) (low : Bool) (p : PortId) : ((s.powerOn low).port p).bound = false := by
  simp [State.powerOn, State.reset, PortTable.reset, State.port, PortRec.reset, PortRec.bound]

/-! ### Ends of drains and of frames -/

/-- R184: a timed command other than SOFT_RESET completes, or a drain of it has ended. -/
theorem softResetting_completeTimed (c : CommandUnit) (code : BitVec 8) :
    (c.completeTimed code).softResetting = false := rfl

theorem going_drainReport (s : State) (ch : Chan) : Going s (s.drainReport ch) := by
  unfold State.drainReport
  split
  · exact .refl s
  · next t timed =>
    have code : (t.ended ch).code = t.code := by cases ch <;> rfl
    dsimp only
    split
    · exact going_cu (s := s) fun soft => by simpa [CommandUnit.softResetting, timed, code] using soft
    · split
      · next reset =>
        have soft : s.cu.softResetting = true := by simpa [CommandUnit.softResetting, timed, code] using reset
        have begun : Going s { s.dynamicReset with cu := s.dynamicReset.cu.completeTimed (t.ended ch).code } :=
          ⟨(lawsKept_dynamicReset s).trans ⟨id, id, id, id⟩,
            (bindingsKept_dynamicReset s).trans ⟨rfl, fun _ h => ⟨h, rfl⟩⟩,
            by constructor <;> exact fun off => absurd (soft.symm.trans off) (by decide)⟩
        exact (begun.trans (ongoing_notice ..).going).trans (ongoing_notice ..).going
      · exact going_cu (s := s) fun _ => softResetting_completeTimed ..

theorem going_disableDrainEnd (s : State) (ch : Chan) : Going s (s.disableDrainEnd ch) :=
  (ongoing_modChan ..).going.trans (going_drainReport ..)

theorem going_afterUnit (s : State) (ch : Chan) : Going s (s.afterUnit ch) := by
  unfold State.afterUnit
  split
  · exact .refl s
  · split
    · exact going_disableDrainEnd ..
    · exact (ongoing_notice ..).going

theorem going_takeFrameEnd (s : State) (ch : Chan) (turnaround : Bool) (data : Word) :
    Going s (s.takeFrameEnd ch turnaround data) := by
  unfold State.takeFrameEnd
  split
  · split
    · unfold State.frameEnd
      dsimp only
      split
      · exact ((((ongoing_modChan ..).trans (ongoing_abortFrameEnd ..)).trans (ongoing_abortDrainEnd ..)).going.trans
          (going_drainReport ..)).trans (ongoing_notice ..).going
      · exact ((ongoing_modChan ..).trans (ongoing_unitFrameEnd ..)).going.trans (going_afterUnit ..)
    · exact .refl s
  · exact .refl s

theorem going_chf (s : State) : Going s { s with ev := { s.ev with chf := true } } :=
  going_ev (s := s) (fun h => ⟨h.room, h.keys, h.repeats, h.threshold, h.timer⟩) rfl

theorem going_lineFault (s : State) (ch : Chan) : Going s (s.lineFault ch) := by
  unfold State.lineFault
  dsimp only
  have faulted := (((ongoing_modChan s ch fun c =>
      { c with frame := none, state := if c.drain = .disable then c.state else .halted }).trans
    (ongoing_cutUnit _ ch .busFault .busFault)).trans (ongoing_post _ (.channelFault ch))).going.trans (going_chf _)
  split
  · exact faulted.trans (going_disableDrainEnd ..)
  · exact faulted

theorem going_takeIdleLineCheck (s : State) (ch : Chan) (mdioHigh : Bool) :
    Going s (s.takeIdleLineCheck ch mdioHigh) := by
  unfold State.takeIdleLineCheck
  split
  · exact .refl s
  · split
    · exact .refl s
    · dsimp only
      refine (ongoing_modChan s ch fun c => { c with mdioHigh := mdioHigh }).going.trans ?_
      split
      · exact going_lineFault ..
      · split
        · exact ((ongoing_modChan ..).trans (ongoing_cutUnit ..)).going.trans (going_afterUnit ..)
        · exact (ongoing_modChan ..).going

end Sys2Proof.Laws
end

section
/-! PROOFS. What every row of the table keeps, row by row (`Going`), and the rows that bind a port, install a profile, fill a
view or reset the part. -/
namespace Sys2Proof.Laws

open Sys2Proof.Machine Sys2Proof.Safety

/-! ### Commands and checked writes -/

/-- R183: a command keeps what its owner keeps. -/
theorem going_command {hi code : BitVec 8} {d : Delivery} (owner : ∀ s, Going s (d s).1) (s : State) :
    Going s (s.command hi code d) := by
  unfold State.command
  dsimp only
  split
  · exact (going_delivered s hi code).trans (going_showResult ..)
  · exact ((going_delivered s hi code).trans (owner _)).trans (going_showResult ..)

/-- R186: a checked write keeps what its owner keeps. -/
theorem going_checkedWrite {a : BitVec 7} {d : Delivery} (owner : ∀ s, Going s (d s).1) (s : State) :
    Going s (s.checkedWrite a d) := by
  unfold State.checkedWrite
  dsimp only
  split
  · exact going_showResult ..
  · exact (owner s).trans (going_showResult ..)

/-- R188: a command of a port keeps what it keeps of every port it can name. -/
theorem going_onNamedPort {s : State} {f : PortId → State × Answer} (h : ∀ p, Going s (f p).1) :
    Going s (s.onNamedPort f).1 := by
  unfold State.onNamedPort
  split
  · exact .refl s
  · exact h _

/-- R188: a command of a channel keeps what it keeps of either. -/
theorem going_onNamedChannel {s : State} {f : Chan → State × Answer} (h : ∀ ch, Going s (f ch).1) :
    Going s (s.onNamedChannel f).1 := by
  unfold State.onNamedChannel
  split
  · exact .refl s
  · exact h _

/-! ### The Port Table -/

/-- R47 (a) to (e): a transition to UNBOUND. -/
theorem recordKept_unbind (s : State) (p : PortId) (why : Option Reason) :
    RecordKept s.pt (s.port p) (moved s p .unbound why PortRec.unbind) where
  law := fun _ => recordLaw_unbound rfl rfl rfl rfl rfl
  misses := fun _ => Nat.zero_le _
  attempts := fun _ => Nat.zero_le _
  binding := fun h => absurd h (by simp [moved, PortRec.bound])

theorem going_takeUnbind (s : State) : Going s (takeUnbind s).1 := by
  refine going_onNamedPort fun p => ?_
  split
  · exact .refl s
  · exact (ongoing_transition (recordKept_unbind ..)).going

theorem bound_of_suspendable {r : PortRec} (h : r.state.suspendable = true) : r.bound = true := by
  refine bound_of_state rfl fun unbound => ?_
  rw [unbound] at h
  exact absurd h (by decide)

theorem going_takeSuspend (s : State) : Going s (takeSuspend s).1 := by
  refine going_onNamedPort fun p => ?_
  split
  · exact .refl s
  · next taken =>
    have hb : (s.port p).bound = true := bound_of_suspendable (by simpa using taken)
    exact (ongoing_transition_of_bound _ id hb (by decide) (mildEffect_id _)).going

theorem going_reprobe {s : State} {p : PortId} (hb : (s.port p).bound = true) (why : Reason) :
    Going s (s.reprobe p why) :=
  ((ongoing_transition_of_bound _ (fun r => { r with attemptCount := 0 }) hb (by decide) (mildEffect_attempts _)).trans
    (ongoing_noticeOf ..)).going

theorem going_takeResume (s : State) : Going s (takeResume s).1 := by
  refine going_onNamedPort fun p => ?_
  split
  · exact .refl s
  · next taken => exact going_reprobe (bound_of_state (not_not.1 taken) (by decide)) _

theorem going_takeRetry (s : State) : Going s (takeRetry s).1 := by
  refine going_onNamedPort fun p => ?_
  split
  · exact .refl s
  · next taken => exact going_reprobe (bound_of_state (not_not.1 taken) (by decide)) _

/-- R22: an ACK of a bound port keeps the law of its record. -/
theorem recordLaw_ack {r : PortRec} (h : RecordLaw r) (names : Item → Bool) (clearCount : Bool) :
    RecordLaw (r.ack names clearCount) where
  bound := h.bound
  down := fun hb low => by simp [PortRec.ack, h.down hb low, show r.mirror.link ≠ some (.flag true) from low]
  fault := fun hb up => by simp [PortRec.ack, h.fault hb up, show r.mirror.rfault = some (.flag true) from up]
  partner := h.partner
  domain := h.domain
  retry := h.retry
  lost := h.lost
  unbound := h.unbound

theorem going_takeAck (s : State) : Going s (takeAck s).1 := by
  refine going_onNamedPort fun p => ?_
  split
  · exact .refl s
  · have kept : RecordKept s.pt (s.port p) ((s.port p).ack s.argNames s.argClearCount) :=
      ⟨fun h => recordLaw_ack h _ _, id, id, fun h => ⟨h, rfl⟩⟩
    exact (ongoing_modPort (f := fun r => r.ack s.argNames s.argClearCount) kept).going

/-- R66, R67: limits and intervals replaced within the law. -/
theorem going_limits {s : State} {x : PortTable} (ports : x.ports = s.pt.ports) (view : x.view = s.pt.view)
    (law : LimitLaw s.pt → LimitLaw x) : Going s { s with pt := x } where
  laws :=
    { events := id
      records := fun h => ⟨by rw [ports]; exact h.records, law h.limits, by
        unfold UniqueLaw
        rw [ports]
        exact h.unique⟩
      engine := id
      staging := id }
  bindings := ⟨rfl, fun p => by
    have same : State.port { s with pt := x } p = s.port p := by simp only [State.port, ports]
    rw [same]
    exact fun h => ⟨h, rfl⟩⟩
  views := ⟨id, fun _ => view, fun _ => rfl, fun _ => rfl⟩

theorem limitInRange_iff (v : Word) : limitInRange v = true ↔ 1 ≤ v.toNat ∧ v.toNat ≤ 15 := by
  simp [limitInRange]

/-- R66: no count above a limit that is taken. -/
theorem counts_le_of_accepted {s : State} {v : Word} {count : PortRec → Nat}
    (h : ¬(allPorts.any fun p => decide (v.toNat < count (s.port p))) = true) (p : PortId) :
    count (s.port p) ≤ v.toNat := by
  have none_above : ∀ p : PortId, p ∈ allPorts → ¬v.toNat < count (s.port p) := by simpa using h
  exact Nat.not_lt.1 (none_above p (List.mem_finRange p))

theorem going_takeMissLimit (v : Word) (s : State) : Going s (takeMissLimit v s).1 := by
  unfold takeMissLimit
  split
  · exact .refl s
  · next range =>
    split
    · exact .refl s
    · next counts =>
      have value := (limitInRange_iff v).1 (by simpa using range)
      exact going_limits rfl rfl fun h => ⟨value, h.attempt, h.retry, h.lost, fun p =>
        ⟨counts_le_of_accepted (count := PortRec.missCount) counts p, (h.counts p).2⟩⟩

theorem going_takeAttemptLimit (v : Word) (s : State) : Going s (takeAttemptLimit v s).1 := by
  unfold takeAttemptLimit
  split
  · exact .refl s
  · next range =>
    split
    · exact .refl s
    · next counts =>
      have value := (limitInRange_iff v).1 (by simpa using range)
      exact going_limits rfl rfl fun h => ⟨h.miss, value, h.retry, h.lost, fun p =>
        ⟨(h.counts p).1, counts_le_of_accepted (count := PortRec.attemptCount) counts p⟩⟩

/-- R67: an interval of 1 to 65535. -/
theorem interval_range {v : Word} (h : ¬v.toNat = 0) : 1 ≤ v.toNat ∧ v.toNat ≤ 65535 := by
  have := v.isLt
  omega

theorem going_takeRetryInterval (v : Word) (s : State) : Going s (takeRetryInterval v s).1 := by
  unfold takeRetryInterval
  split
  · exact .refl s
  · next positive =>
    exact going_limits rfl rfl fun h => ⟨h.miss, h.attempt, interval_range positive, h.lost, h.counts⟩

theorem going_takeLostInterval (v : Word) (s : State) : Going s (takeLostInterval v s).1 := by
  unfold takeLostInterval
  split
  · exact .refl s
  · next positive =>
    exact going_limits rfl rfl fun h => ⟨h.miss, h.attempt, h.retry, interval_range positive, h.counts⟩

/-- R58: a probe-retry timer that is due leaves the timers as the law has them. -/
theorem going_probeRetryExpiry (s : State) (p : PortId) : Going s (s.probeRetryExpiry p) := by
  unfold State.probeRetryExpiry
  split
  · exact ((((ongoing_modPort (recordKept_of_same rfl rfl rfl rfl rfl id id (.inr (.inl rfl)) (.inl rfl))).trans
      (ongoing_markStale ..)).trans (ongoing_schedOf ..)).trans (ongoing_noticeOf ..)).going
  · exact .refl s

theorem going_lostCheckExpiry (s : State) (p : PortId) : Going s (s.lostCheckExpiry p) := by
  unfold State.lostCheckExpiry
  split
  · exact ((((ongoing_modPort (recordKept_of_same rfl rfl rfl rfl rfl id id (.inl rfl) (.inr (.inl rfl)))).trans
      (ongoing_markStale ..)).trans (ongoing_schedOf ..)).trans (ongoing_noticeOf ..)).going
  · exact .refl s

/-! ### Channels and schedulers -/

theorem going_modChan (s : State) (ch : Chan) (f : Channel → Channel) : Going s (s.modChan ch f) :=
  (ongoing_modChan ..).going

theorem going_modSched (s : State) (ch : Chan) (f : Scheduler → Scheduler) : Going s (s.modSched ch f) :=
  (ongoing_modSched ..).going

theorem going_takeSetScanEntry (s : State) : Going s (takeSetScanEntry s).1 := by
  unfold takeSetScanEntry
  split
  · dsimp only
    exact going_modSched ..
  · exact .refl s

theorem going_takeSetScanLength (s : State) : Going s (takeSetScanLength s).1 := by
  unfold takeSetScanLength
  split
  · exact .refl s
  · split
    · dsimp only
      exact going_modSched ..
    · exact .refl s

theorem going_enableOn (s : State) (ch : Chan) : Going s (s.enableOn ch).1 := by
  unfold State.enableOn
  split
  · exact ((ongoing_modChan ..).trans (ongoing_notice ..)).going
  · exact .refl s

theorem going_enableOff (s : State) (ch : Chan) : Going s (s.enableOff ch).1 := by
  unfold State.enableOff
  dsimp only
  split
  · exact .refl s
  · exact going_modChan ..
  · exact .refl s
  · split
    · exact going_modChan ..
    · exact (ongoing_modChan ..).going.trans (going_startTimed _ (by decide) _ _)

theorem going_takeChannelEnable (s : State) : Going s (takeChannelEnable s).1 := by
  refine going_onNamedChannel fun ch => ?_
  split
  · exact going_enableOn ..
  · exact going_enableOff ..

theorem going_abortChannel (s : State) (ch : Chan) : Going s (s.abortChannel ch).1 := by
  unfold State.abortChannel
  dsimp only
  split
  · exact ((ongoing_beginAbort s ch).trans (ongoing_notice ..)).going
  · exact (ongoing_beginAbort s ch).going.trans (going_startTimed _ (by decide) _ _)

theorem going_restartChannel (s : State) (mdioHigh : Bool) (ch : Chan) : Going s (s.restartChannel mdioHigh ch).1 := by
  unfold State.restartChannel
  split
  · exact .refl s
  · dsimp only
    split
    · exact (((ongoing_modChan ..).trans (ongoing_modChan ..)).trans (ongoing_notice ..)).going
    · dsimp only
      exact going_modChan ..

theorem going_takeDivider (ch : Chan) (v : Word) (s : State) : Going s (s.takeDivider ch v).1 := by
  unfold State.takeDivider
  split
  · dsimp only
    exact going_modChan ..
  · exact .refl s

theorem going_takePassInterval (ch : Chan) (v : Word) (s : State) : Going s (s.takePassInterval ch v).1 := by
  unfold State.takePassInterval
  split
  · exact .refl s
  · dsimp only
    exact going_modSched ..

theorem going_takeHostWeight (ch : Chan) (v : Word) (s : State) : Going s (s.takeHostWeight ch v).1 := by
  unfold State.takeHostWeight
  split
  · dsimp only
    exact going_modChan ..
  · exact .refl s

theorem going_takeChannelStatus (ch : Chan) (v : Word) (s : State) : Going s (s.takeChannelStatus ch v) := by
  unfold State.takeChannelStatus
  split
  · exact going_modSched ..
  · exact .refl s

theorem going_passIntervalExpiry (s : State) (ch : Chan) : Going s (s.passIntervalExpiry ch) := by
  unfold State.passIntervalExpiry
  dsimp only
  split
  · split
    · exact going_modSched ..
    · split
      · exact going_modSched ..
      · exact ((ongoing_modSched ..).trans (ongoing_notice ..)).going
  · exact .refl s

/-! ### Host transactions -/

theorem going_offer (s : State) (t : HostTxn) (more : Bool) : Going s (s.offer t more).1 := by
  unfold State.offer
  dsimp only
  split
  · exact .refl s
  · split
    · exact .refl s
    · split
      · exact .refl s
      · exact ((ongoing_modChan s t.channel fun c => c.place t more).going.trans (going_outstanding _ _)).trans
          (ongoing_notice ..).going

theorem going_takePost (s : State) : Going s (takePost s).1 := by
  unfold takePost
  split
  · unfold State.postRawRead
    split
    · exact .refl s
    · exact going_offer ..
  · unfold State.postRawWrite
    split
    · exact .refl s
    · exact going_offer ..
  · unfold State.postItemRead
    split
    · split
      · exact .refl s
      · split
        · exact .refl s
        · exact going_offer ..
    · exact .refl s
  · exact .refl s

/-! ### The event queue -/

/-- R149 to R154: the law of the event queue reads neither causes, enables, holdoff nor views. -/
theorem eventLaw_of_same {e e' : EventBlock} (h : EventLaw e) (queue : e'.queue = e.queue) (timer : e'.timer = e.timer)
    (threshold : 1 ≤ e'.threshold ∧ e'.threshold ≤ 64) : EventLaw e' :=
  ⟨by rw [queue]; exact h.room, by rw [queue]; exact h.keys, by rw [queue]; exact h.repeats, threshold, by
    rw [queue, timer]; exact h.timer⟩

theorem going_takeThreshold (v : Word) (s : State) : Going s (takeThreshold v s).1 := by
  unfold takeThreshold
  split
  · next range => exact going_ev (s := s) (fun h => eventLaw_of_same h rfl rfl range) rfl
  · exact .refl s

theorem going_takeHoldoff (v : Word) (s : State) : Going s (takeHoldoff v s).1 :=
  going_ev (s := s) (fun h => eventLaw_of_same h rfl rfl h.threshold) rfl

/-- R150: the holdoff timer expires. -/
theorem eventLaw_expire {e : EventBlock} (h : EventLaw e) : EventLaw e.expire := by
  unfold EventBlock.expire
  split
  · next due =>
    refine ⟨h.room, h.keys, h.repeats, h.threshold, ?_⟩
    have running : e.queue ≠ [] := fun empty => by simp [h.timer.2 empty] at due
    simp [running]
  · exact h

/-- R150: a tick of the holdoff timer. -/
theorem eventLaw_tick {e : EventBlock} (h : EventLaw e) : EventLaw { e with timer := e.timer.tick } := by
  refine ⟨h.room, h.keys, h.repeats, h.threshold, ?_⟩
  rw [← h.timer]
  cases e.timer <;> simp [HoldoffTimer.tick]

/-! ### The Indicator Engine -/

/-- The law of the engine reads the slots, the flash width, the chain length and the refresh count. -/
theorem engineLaw_of_same {e e' : IndicatorEngine} (h : EngineLaw e) (slots : e'.slots = e.slots)
    (width : e'.flashWidth = e.flashWidth) (length : e'.chainLength = e.chainLength)
    (refresh : e'.refreshCount = e.refreshCount) : EngineLaw e' :=
  ⟨by rw [slots]; exact h.halves, by rw [slots]; exact h.pendings, by rw [width]; exact h.width, by
    rw [length]; exact h.length, by rw [refresh]; exact h.refresh⟩

/-- A rate slot whose half-periods lie in their range. -/
structure SlotLaw (t : RateSlot) : Prop where
  half : 1 ≤ t.half ∧ t.half ≤ 255
  pending : ∀ h ∈ t.pending, 1 ≤ h ∧ h ≤ 255

/-- R162 to R164: a slot changed within its range. -/
theorem engineLaw_modSlot {e : IndicatorEngine} (h : EngineLaw e) (n : Fin 4) {f : RateSlot → RateSlot}
    (kept : SlotLaw e.slots[n] → SlotLaw (f e.slots[n])) : EngineLaw (e.modSlot n f) := by
  have slot : ∀ m : Fin 4, SlotLaw (e.modSlot n f).slots[m] := by
    intro m
    by_cases same : m = n
    · subst same
      simpa [IndicatorEngine.modSlot] using kept ⟨h.halves m, h.pendings m⟩
    · have apart : (n : Nat) ≠ m := fun e => same (Fin.ext e.symm)
      have other : (e.modSlot n f).slots[m] = e.slots[m] := by
        simp [IndicatorEngine.modSlot, Vector.getElem_set_ne, apart]
      rw [other]
      exact ⟨h.halves m, h.pendings m⟩
  exact ⟨fun m => (slot m).half, fun m => (slot m).pending, h.width, h.length, h.refresh⟩

theorem slotLaw_toggle {t : RateSlot} (h : SlotLaw t) : SlotLaw t.toggle := by
  refine ⟨?_, fun _ none => by simp [RateSlot.toggle] at none⟩
  cases waiting : t.pending with
  | none => simpa [RateSlot.toggle, waiting] using h.half
  | some n => simpa [RateSlot.toggle, waiting] using h.pending n waiting

theorem slotLaw_expire {t : RateSlot} (h : SlotLaw t) : SlotLaw t.expire := by
  unfold RateSlot.expire
  split
  · exact slotLaw_toggle h
  · exact h

theorem going_takeSetRate (s : State) : Going s (takeSetRate s).1 := by
  unfold takeSetRate
  split
  · exact .refl s
  · dsimp only
    split
    · next range =>
      split
      · exact going_ie fun h => engineLaw_modSlot h _ fun slot =>
          ⟨slot.half, fun n taken => by cases taken; exact range⟩
      · exact going_ie fun h => engineLaw_modSlot h _ fun _ => ⟨range, nofun⟩
      · exact .refl s
    · exact .refl s

theorem going_takeOverride (s : State) : Going s (takeOverride s).1 := by
  unfold takeOverride
  split
  · exact going_ie fun h => engineLaw_of_same h rfl rfl rfl rfl
  · exact .refl s

theorem going_takeCancelOverride (s : State) : Going s (takeCancelOverride s).1 := by
  unfold takeCancelOverride
  split
  · exact .refl s
  · split
    · exact .refl s
    · exact going_ie fun h => engineLaw_of_same h rfl rfl rfl rfl

theorem going_takeIndicatorIndex (v : Word) (s : State) : Going s (takeIndicatorIndex v s).1 := by
  unfold takeIndicatorIndex
  split
  · exact .refl s
  · exact going_ie fun h => engineLaw_of_same h rfl rfl rfl rfl

theorem going_takeIndicatorRecord (n : Fin 3) (v : Word) (s : State) : Going s (takeIndicatorRecord n v s).1 := by
  unfold takeIndicatorRecord
  split
  · exact .refl s
  · exact going_ie fun h => engineLaw_of_same h rfl rfl rfl rfl

theorem going_takeChainLength (v : Word) (s : State) : Going s (takeChainLength v s).1 := by
  unfold takeChainLength
  split
  · next range => exact going_ie fun h => ⟨h.halves, h.pendings, h.width, range, h.refresh⟩
  · exact .refl s

theorem going_takeFlashWidth (v : Word) (s : State) : Going s (takeFlashWidth v s).1 := by
  unfold takeFlashWidth
  split
  · next range => exact going_ie fun h => ⟨h.halves, h.pendings, range, h.length, h.refresh⟩
  · exact .refl s

theorem going_refresh (s : State) : Going s s.refresh := by
  unfold State.refresh
  split
  · exact going_ie fun h => engineLaw_of_same h rfl rfl rfl rfl
  · exact .refl s

/-! ### The staging record -/

theorem stagingLaw_writeIndex {t : ProfileStore} (h : StagingLaw t) (v : Word) : StagingLaw (t.writeIndex v) := by
  unfold ProfileStore.writeIndex
  split
  · next range => exact ⟨range, h.width, h.length⟩
  · exact h

/-- R181: a width of 17 to 31 leaves the width as it was. -/
theorem width_write {r : StagedRecipe} (h : r.width ≤ 16) (n : Fin 4) (v : Word) : (r.write n v).width ≤ 16 := by
  unfold StagedRecipe.write
  split
  · simp only [StagedRecipe.writeField]
    split <;> omega
  · exact h

theorem setupLength_writeGeneral {g : Staging} (h : g.setupLength ≤ 8) (n : Fin 4) (v : Word) :
    (g.writeGeneral n v).setupLength ≤ 8 := by
  unfold Staging.writeGeneral
  split
  · exact h
  · dsimp only
    split <;> omega
  · exact h
  · exact h

theorem stagingLaw_writePart {t : ProfileStore} (h : StagingLaw t) (n : Fin 4) (v : Word) :
    StagingLaw (t.writePart n v) := by
  unfold ProfileStore.writePart Staging.write
  split
  · next i _ =>
    refine ⟨h.index, fun j => ?_, h.length⟩
    by_cases same : j = i
    · subst same
      simpa using width_write (h.width j) n v
    · simpa [PerItem.get_set_of_ne _ _ _ _ same] using h.width j
  · exact ⟨h.index, h.width, h.length⟩
  · exact ⟨h.index, h.width, h.length⟩
  · refine ⟨h.index, fun j => ?_, setupLength_writeGeneral h.length n v⟩
    have same : (t.staging.writeGeneral n v).recipes = t.staging.recipes := by
      unfold Staging.writeGeneral
      split <;> rfl
    rw [same]
    exact h.width j

/-! ### The tick -/

/-- R58, R62: a tick runs the timers of a record and starts none. -/
theorem recordLaw_tick {r : PortRec} (h : RecordLaw r) : RecordLaw r.tick :=
  recordLaw_of_same h rfl rfl rfl rfl rfl (by simpa [PortRec.tick, tickTimer] using h.retry)
    (by simpa [PortRec.tick, tickTimer] using h.lost)

theorem portLaw_tick {t : PortTable} (h : PortLaw t) : PortLaw { t with ports := mapVec PortRec.tick t.ports } where
  records := fun p => by simpa using recordLaw_tick (h.records p)
  limits := ⟨h.limits.miss, h.limits.attempt, h.limits.retry, h.limits.lost, fun p => by
    simpa [PortRec.tick] using h.limits.counts p⟩
  unique := fun p q => by simpa [PortRec.tick, PortRec.bound] using h.unique p q

/-- R169: the refresh count stays below 5. -/
theorem engineLaw_countRefresh {e : IndicatorEngine} (h : EngineLaw e) : EngineLaw e.countRefresh := by
  unfold IndicatorEngine.countRefresh
  split
  · exact ⟨h.halves, h.pendings, h.width, h.length, Nat.zero_le _⟩
  · next low =>
    have below : ¬5 ≤ e.refreshCount + 1 := low
    exact ⟨h.halves, h.pendings, h.width, h.length, Nat.lt_succ_iff.1 (Nat.not_le.1 below)⟩

/-- R162: a tick counts the slots' timers and no half-period. -/
theorem engineLaw_tick {e : IndicatorEngine} (h : EngineLaw e) : EngineLaw e.tick :=
  engineLaw_countRefresh
    ⟨fun n => by simpa [RateSlot.tick] using h.halves n, fun n => by simpa [RateSlot.tick] using h.pendings n, h.width,
      h.length, h.refresh⟩

theorem going_tickTimers (s : State) : Going s s.tickTimers where
  laws :=
    { events := eventLaw_tick
      records := portLaw_tick
      engine := engineLaw_tick
      staging := id }
  bindings := ⟨rfl, fun p => by
    have record : s.tickTimers.port p = (s.port p).tick := by simp [State.tickTimers, State.port]
    rw [record]
    exact fun h => ⟨h, rfl⟩⟩
  views := ⟨id, fun _ => rfl, fun _ => rfl, fun _ => rfl⟩

theorem going_noticeIfGrown (s before : State) (ch : Chan) : Going s (s.noticeIfGrown before ch) := by
  unfold State.noticeIfGrown
  split
  · exact (ongoing_notice ..).going
  · exact .refl s

theorem going_tick (s : State) (atn : BitVec 4) : Going s (s.tick atn) := by
  unfold State.tick State.sampleAttention
  dsimp only
  exact ((((going_tickTimers s).trans ((ongoing_modSched _ .ch0 _).trans (ongoing_modSched _ .ch1 _)).going).trans
    (going_att _ _)).trans (going_noticeIfGrown ..)).trans (going_noticeIfGrown ..)

end Sys2Proof.Laws
end

section
/-! PROOFS. Every row of the table and what it keeps: the event law, the laws of the port records, the views (R175), and the
binding and profile of a bound port (R2, R43). -/
namespace Sys2Proof.Laws

open Sys2Proof.Machine Sys2Proof.Safety

/-! ### Rows that bind no port, install no profile, fill no view and reset nothing -/

/-- The rows that change a binding, a profile or a view, and the resets. -/
def changing : Instr → Bool
  | .bind _ => true
  | .profileLoad _ => true
  | .snapshot _ => true
  | .popEvent _ => true
  | .takeCompletion _ => true
  | .softReset _ => true
  | .resetAssert => true
  | .resetRelease => true
  | _ => false

theorem going_live {s t : State} {f : State → State} (h : ∀ s, Going s (f s)) (step : s.live f = .next t) : Going s t := by
  obtain rfl : (if s.rstnLow then s else f s) = t := by simpa [State.live] using step
  split
  · exact .refl s
  · exact h s

/-- R183: a code above 20 has no owner. -/
theorem commandOwner_of_gt {code : BitVec 8} (h : 20 < code.toNat) : commandOwner code = fun s => (s, .badArg 14) := by
  unfold commandOwner
  split <;> first | omega | rfl

theorem going_setArg (s : State) (n : Fin 6) (v : Word) : Going s (s.setArg n v) := going_cu (s := s) id

/-- What a row keeps that changes no binding, no profile and no view and is no reset. -/
theorem going_row {i : Instr} {s t : State} (formed : i.wellFormed = true) (quiet : changing i = false)
    (step : exec i s = .next t) : Going s t := by
  cases i
  case nop => exact going_live (going_command Going.refl) step
  case bind => exact nomatch quiet
  case unbind => exact going_live (going_command going_takeUnbind) step
  case suspend => exact going_live (going_command going_takeSuspend) step
  case resume => exact going_live (going_command going_takeResume) step
  case retry => exact going_live (going_command going_takeRetry) step
  case ack => exact going_live (going_command going_takeAck) step
  case snapshot => exact nomatch quiet
  case setScanEntry => exact going_live (going_command going_takeSetScanEntry) step
  case setScanLength => exact going_live (going_command going_takeSetScanLength) step
  case profileLoad => exact nomatch quiet
  case postRawRead => exact going_live (going_command going_takePost) step
  case postRawWrite => exact going_live (going_command going_takePost) step
  case postItemRead => exact going_live (going_command going_takePost) step
  case takeCompletion => exact nomatch quiet
  case popEvent => exact nomatch quiet
  case override => exact going_live (going_command going_takeOverride) step
  case cancelOverride => exact going_live (going_command going_takeCancelOverride) step
  case setRateDeferred => exact going_live (going_command going_takeSetRate) step
  case setRateImmediate => exact going_live (going_command going_takeSetRate) step
  case channelEnableOn => exact going_live (going_command going_takeChannelEnable) step
  case channelEnableOff => exact going_live (going_command going_takeChannelEnable) step
  case channelAbort => exact going_live (going_command fun s => going_onNamedChannel (going_abortChannel s)) step
  case channelRestart hi level =>
    exact going_live (going_command fun s => going_onNamedChannel (going_restartChannel s level)) step
  case softReset => exact nomatch quiet
  case unknownCommand hi code =>
    have owner := commandOwner_of_gt (of_decide_eq_true formed)
    exact going_live (f := fun s => s.command hi code (commandOwner code))
      (going_command (by rw [owner]; exact Going.refl)) step
  case writeInterruptCauses v =>
    exact going_live (f := fun s => { s with ev := s.ev.clearCauses v })
      (fun s => going_ev (fun h => eventLaw_of_same h rfl rfl h.threshold) rfl) step
  case writeInterruptEnables v =>
    exact going_live (f := fun s => { s with ev := s.ev.setEnables v })
      (fun s => going_ev (fun h => eventLaw_of_same h rfl rfl h.threshold) rfl) step
  case writeEventThreshold v => exact going_live (going_checkedWrite (going_takeThreshold v)) step
  case writeHoldoff v => exact going_live (going_checkedWrite (going_takeHoldoff v)) step
  case writeMissLimit v => exact going_live (going_checkedWrite (going_takeMissLimit v)) step
  case writeProbeAttemptLimit v => exact going_live (going_checkedWrite (going_takeAttemptLimit v)) step
  case writeProbeRetryInterval v => exact going_live (going_checkedWrite (going_takeRetryInterval v)) step
  case writeLostCheckInterval v => exact going_live (going_checkedWrite (going_takeLostInterval v)) step
  case writeStagingIndex v =>
    exact going_live (f := fun s => { s with ps := s.ps.writeIndex v })
      (fun s => going_ps (stagingLaw_writeIndex · v) (by unfold ProfileStore.writeIndex; split <;> rfl)) step
  case writeStagingPart n v =>
    exact going_live (f := fun s => { s with ps := s.ps.writePart n v })
      (fun s => going_ps (stagingLaw_writePart · n v) rfl) step
  case writeAttentionLow => exact going_live (fun s => going_att s _) step
  case writeAttentionHigh => exact going_live (fun s => going_att s _) step
  case writeDivider ch v => exact going_live (going_checkedWrite (going_takeDivider ch v)) step
  case writePassInterval ch v => exact going_live (going_checkedWrite (going_takePassInterval ch v)) step
  case writeHostWeight ch v => exact going_live (going_checkedWrite (going_takeHostWeight ch v)) step
  case writeChannelStatus ch v => exact going_live (going_takeChannelStatus ch v) step
  case writeIndicatorIndex v => exact going_live (going_checkedWrite (going_takeIndicatorIndex v)) step
  case writeIndicatorRecord n v => exact going_live (going_checkedWrite (going_takeIndicatorRecord n v)) step
  case writeChainLength v => exact going_live (going_checkedWrite (going_takeChainLength v)) step
  case writeFlashWidth v => exact going_live (going_checkedWrite (going_takeFlashWidth v)) step
  case registerWrite a v =>
    refine going_live (f := fun s => s.writeWord a v) (fun s => ?_) step
    rw [writeWord_of_plain formed]
    split
    · exact going_setArg ..
    · exact .refl s
  case resetAssert => exact nomatch quiet
  case resetRelease => exact nomatch quiet
  case timebaseTick atn => exact going_live (fun s => going_tick s atn) step
  case indicatorRefresh => exact going_live going_refresh step
  case probeRetryExpiry p => exact going_live (fun s => going_probeRetryExpiry s p) step
  case lostCheckExpiry p => exact going_live (fun s => going_lostCheckExpiry s p) step
  case passIntervalExpiry ch => exact going_live (fun s => going_passIntervalExpiry s ch) step
  case holdoffExpiry =>
    exact going_live (f := fun s => { s with ev := s.ev.expire })
      (fun s => going_ev eventLaw_expire (by unfold EventBlock.expire; split <;> rfl)) step
  case ratePhaseExpiry n =>
    exact going_live (f := fun s => { s with ie := s.ie.modSlot n RateSlot.expire })
      (fun s => going_ie fun h => engineLaw_modSlot h n slotLaw_expire) step
  case flashPhaseExpiry p =>
    exact going_live (f := fun s => { s with ie := s.ie.modFlash p fun m => m.expire s.ie.flashWidth })
      (fun s => going_ie fun h => engineLaw_flash h _) step
  case overrideExpiry n =>
    exact going_live (f := fun s => { s with ie := s.ie.modRecord n IndicatorRec.overrideExpire })
      (fun s => going_ie fun h => engineLaw_of_same h rfl rfl rfl rfl) step
  case idleLineCheck ch level => exact going_live (fun s => going_takeIdleLineCheck s ch level) step
  case frameEnd ch turnaround data => exact going_live (fun s => going_takeFrameEnd s ch turnaround data) step

/-! ### The other rows -/

/-- R183: a command either is refused with nothing delivered, or shows its owner's answer. -/
theorem command_cases (s : State) (hi code : BitVec 8) (d : Delivery) :
    (∃ a, s.command hi code d = (delivered s hi code).showResult code a) ∨
    s.command hi code d = (d (delivered s hi code)).1.showResult code (d (delivered s hi code)).2 := by
  unfold State.command
  dsimp only
  split
  · exact .inl ⟨_, rfl⟩
  · exact .inr rfl

/-- A command keeps what its owner keeps, for any relation that the frame of a command has. -/
theorem command_kept {R : State → State → Prop} (compose : ∀ {s t u}, R s t → R t u → R s u)
    (going : ∀ {s t}, Going s t → R s t) {hi code : BitVec 8} {d : Delivery} (owner : ∀ s, R s (d s).1) (s : State) :
    R s (s.command hi code d) := by
  have begun := going (going_delivered s hi code)
  obtain ⟨a, refused⟩ | taken := command_cases s hi code d
  · rw [refused]
    exact compose begun (going (going_showResult ..))
  · rw [taken]
    exact compose (compose begun (owner _)) (going (going_showResult ..))

theorem live_kept {R : State → State → Prop} (refl : ∀ s, R s s) {s t : State} {f : State → State} (h : R s (f s))
    (step : s.live f = .next t) : R s t := by
  obtain rfl : (if s.rstnLow then s else f s) = t := by simpa [State.live] using step
  split
  · exact refl s
  · exact h

/-- R47: what a transition does after its port's record is written is work of the part. -/
theorem ongoing_after_record (s : State) (p : PortId) (new : PortState) (why : Option Reason) (eff : PortRec → PortRec) :
    Ongoing (s.setPort p (moved s p new why eff)) (s.transition p new why eff) :=
  (((ongoing_markStale ..).trans (ongoing_schedOf ..)).trans (ongoing_schedOf ..)).trans (ongoing_post ..)

/-- R48 (d): no bound port stands at a bus place that is free. -/
theorem place_of_portAt {t : PortTable} {ch : Chan} {dev : BusAddr} (h : t.portAt ch dev = none) {q : PortId}
    (hq : t.ports[q].bound = true) : t.ports[q].binding.map (fun b => (b.channel, b.device)) ≠ some (ch, dev) := by
  have none_there := List.find?_eq_none.1 h q (List.mem_finRange q)
  intro there
  exact none_there (by simp only [hq, there, decide_true, Bool.and_self])

/-- R48 (e): the record of a port just bound. -/
theorem recordLaw_bound {s : State} {p : PortId} (why : Option Reason) (b : Binding) :
    RecordLaw (moved s p .probing why fun r => r.bind b) where
  bound := rfl
  down := fun _ _ => rfl
  fault := fun _ up => absurd up (by simp [moved, PortRec.bind, PortRec.reset, PerItem.const])
  partner := fun some_value => absurd some_value (by simp [moved, PortRec.bind, PortRec.reset, PerItem.const])
  domain := domainLaw_none
  retry := fun running => absurd running (by simp [moved])
  lost := fun running => absurd running (by simp [moved])
  unbound := fun _ => rfl

/-- R48: a port bound at a free bus place keeps the laws of the Port Table. -/
theorem portLaw_bind {t : PortTable} (h : PortLaw t) {p : PortId} {r : PortRec} {b : Binding} (law : RecordLaw r)
    (binding : r.binding = some b) (misses : r.missCount = 0) (attempts : r.attemptCount = 0)
    (free : t.portAt b.channel b.device = none) : PortLaw { t with ports := t.ports.set p r } where
  records := by
    intro q
    simp only [getElem_set_port]
    split
    · exact law
    · exact h.records q
  limits :=
    { miss := h.limits.miss
      attempt := h.limits.attempt
      retry := h.limits.retry
      lost := h.limits.lost
      counts := by
        intro q
        simp only [getElem_set_port]
        split
        · rw [misses, attempts]
          exact ⟨Nat.zero_le _, Nat.zero_le _⟩
        · exact h.limits.counts q }
  unique := by
    intro q q' hq hq' same
    simp only [getElem_set_port] at hq hq' same
    split at hq <;> split at hq' <;> simp_all only [if_true, if_false, Option.map_some]
    · exact absurd same.symm (place_of_portAt free hq')
    · exact absurd same (place_of_portAt free hq)
    · exact h.unique q q' hq hq' same

/-- R48: what BIND keeps. -/
theorem takeBind_cases (s : State) :
    (takeBind s).1 = s ∨
    ∃ p b, (s.port p).bound = false ∧ s.pt.portAt b.channel b.device = none ∧
      Ongoing (s.setPort p (moved s p .probing (some .host) fun r => r.bind b)) (takeBind s).1 := by
  unfold takeBind
  split
  · exact .inl rfl
  · next p b _ =>
    split
    · exact .inl rfl
    · next unbound =>
      split
      · exact .inl rfl
      · split
        · exact .inl rfl
        · next free =>
          exact .inr ⟨p, b, by simpa using unbound, by simpa using free,
            (ongoing_after_record ..).trans (ongoing_notice ..)⟩

theorem lawsKept_takeBind (s : State) : LawsKept s (takeBind s).1 := by
  obtain same | ⟨p, b, -, free, bound⟩ := takeBind_cases s
  · rw [same]
    exact .refl s
  · exact LawsKept.trans (t := s.setPort p (moved s p .probing (some .host) fun r => r.bind b)) ⟨id, fun h => portLaw_bind h (recordLaw_bound _ b) rfl rfl rfl free, id, id⟩ bound.going.laws

theorem viewsKept_takeBind (s : State) : ViewsKept s (takeBind s).1 := by
  obtain same | ⟨p, b, -, -, bound⟩ := takeBind_cases s
  · rw [same]
    exact .refl s
  · exact ViewsKept.trans (t := s.setPort p (moved s p .probing (some .host) fun r => r.bind b)) ⟨id, fun _ => rfl, fun _ => rfl, fun _ => rfl⟩ bound.going.views

/-- R41: PROFILE_LOAD leaves the state or installs one profile that is not in use. -/
theorem takeProfileLoad_cases (s : State) :
    (takeProfileLoad s).1 = s ∨
    ∃ n f, s.pt.profileInUse n = false ∧
      (takeProfileLoad s).1 = { s with ps := { s.ps with profiles := s.ps.profiles.set n (some f) } } := by
  unfold takeProfileLoad
  split
  · exact .inl rfl
  · next n _ =>
    split
    · exact .inl rfl
    · next free =>
      split
      · exact .inl rfl
      · exact .inr ⟨n, _, by simpa using free, rfl⟩

theorem lawsKept_takeProfileLoad (s : State) : LawsKept s (takeProfileLoad s).1 := by
  obtain same | ⟨n, f, -, loaded⟩ := takeProfileLoad_cases s
  · rw [same]
    exact .refl s
  · rw [loaded]
    exact ⟨id, id, id, fun h => ⟨h.index, h.width, h.length⟩⟩

theorem viewsKept_takeProfileLoad (s : State) : ViewsKept s (takeProfileLoad s).1 := by
  obtain same | ⟨n, f, -, loaded⟩ := takeProfileLoad_cases s
  · rw [same]
    exact .refl s
  · rw [loaded]
    exact ⟨id, fun _ => rfl, fun _ => rfl, fun _ => rfl⟩

/-- R24: RESYNC cleared. -/
theorem recordKept_resync (t : PortTable) (r : PortRec) : RecordKept t r { r with resync := false } :=
  recordKept_of_same rfl rfl rfl rfl rfl id id (.inl rfl) (.inl rfl)

/-- R24: SNAPSHOT leaves the state, or fills the port view and clears RESYNC of its port. -/
theorem takeSnapshot_cases (s : State) :
    (takeSnapshot s).1 = s ∨ ∃ v, Ongoing { s with pt := { s.pt with view := v } } (takeSnapshot s).1 := by
  unfold takeSnapshot State.onNamedPort
  split
  · exact .inl rfl
  · next p _ =>
    exact .inr ⟨some ⟨p, s.stamp, s.port p⟩,
      ongoing_modPort (s := { s with pt := { s.pt with view := some ⟨p, s.stamp, s.port p⟩ } })
        (f := fun r => { r with resync := false }) (recordKept_resync ..)⟩

theorem lawsKept_portView (s : State) (v : Option PortView) : LawsKept s { s with pt := { s.pt with view := v } } :=
  ⟨id, fun h => ⟨h.records, ⟨h.limits.miss, h.limits.attempt, h.limits.retry, h.limits.lost, h.limits.counts⟩,
    h.unique⟩, id, id⟩

theorem lawsKept_takeSnapshot (s : State) : LawsKept s (takeSnapshot s).1 := by
  obtain same | ⟨v, copied⟩ := takeSnapshot_cases s
  · rw [same]
    exact .refl s
  · exact (lawsKept_portView s v).trans copied.going.laws

theorem bindingsKept_takeSnapshot (s : State) : BindingsKept s (takeSnapshot s).1 := by
  obtain same | ⟨v, copied⟩ := takeSnapshot_cases s
  · rw [same]
    exact .refl s
  · exact BindingsKept.trans (t := { s with pt := { s.pt with view := v } }) ⟨rfl, fun _ h => ⟨h, rfl⟩⟩
      copied.going.bindings

/-- R146: POP_EVENT leaves the state, or pops the event queue. -/
theorem takePopEvent_cases (s : State) :
    (takePopEvent s).1 = s ∨
    ∃ r rest, s.ev.queue = r :: rest ∧ (takePopEvent s).1 = { s with ev := s.ev.pop r rest } := by
  unfold takePopEvent
  split
  · exact .inl rfl
  · next r rest queue => exact .inr ⟨r, rest, queue, rfl⟩

theorem lawsKept_takePopEvent (s : State) : LawsKept s (takePopEvent s).1 := by
  obtain same | ⟨r, rest, queue, popped⟩ := takePopEvent_cases s
  · rw [same]
    exact .refl s
  · rw [popped]
    exact ⟨fun h => eventLaw_pop h queue, id, id, id⟩

/-- R134: TAKE_COMPLETION changes the parts of the Host Transaction Unit that serve both channels alone. -/
theorem takeTakeCompletion_eq (s : State) : ∃ x, (takeTakeCompletion s).1 = { s with ht := x } := by
  unfold takeTakeCompletion
  split
  · exact ⟨s.ht, rfl⟩
  · exact ⟨_, rfl⟩

theorem lawsKept_takeTakeCompletion (s : State) : LawsKept s (takeTakeCompletion s).1 := by
  obtain ⟨x, taken⟩ := takeTakeCompletion_eq s
  rw [taken]
  exact ⟨id, id, id, id⟩

/-- R190: SOFT_RESET keeps the laws, binds no port and installs no profile. -/
theorem kept_takeSoftReset (s : State) : LawsKept s (takeSoftReset s).1 ∧ BindingsKept s (takeSoftReset s).1 := by
  have begun : LawsKept s (s.startTimed 20#8 true true) ∧ BindingsKept s (s.startTimed 20#8 true true) :=
    ⟨⟨id, id, id, id⟩, ⟨rfl, fun _ h => ⟨h, rfl⟩⟩⟩
  have drained := ((ongoing_beginAbort (s.startTimed 20#8 true true) .ch0).trans
    (ongoing_beginAbort ((s.startTimed 20#8 true true).beginAbort .ch0).1 .ch1)).going
  have laws := begun.1.trans drained.laws
  have bindings := begun.2.trans drained.bindings
  unfold takeSoftReset
  dsimp only
  revert laws bindings
  generalize (((s.startTimed 20#8 true true).beginAbort .ch0).1.beginAbort .ch1).1 = u
  intro laws bindings
  split
  · let v := withUnit u.dynamicReset { u.dynamicReset.cu with timed := none }
    have reset : LawsKept u v ∧ BindingsKept u v :=
      ⟨(lawsKept_dynamicReset u).trans ⟨id, id, id, id⟩, (bindingsKept_dynamicReset u).trans ⟨rfl, fun _ h => ⟨h, rfl⟩⟩⟩
    have decided : Going v ((v.notice .ch0).notice .ch1) := ((ongoing_notice ..).trans (ongoing_notice ..)).going
    exact ⟨(laws.trans reset.1).trans decided.laws, (bindings.trans reset.2).trans decided.bindings⟩
  · exact ⟨laws.trans ⟨id, id, id, id⟩, bindings.trans ⟨rfl, fun _ h => ⟨h, rfl⟩⟩⟩

/-! ### The laws of single blocks -/

theorem lawsKept_command {s t : State} {hi code : BitVec 8} {d : Delivery} (owner : ∀ s, LawsKept s (d s).1)
    (step : s.live (fun s => s.command hi code d) = .next t) : LawsKept s t :=
  live_kept LawsKept.refl (command_kept (R := LawsKept) LawsKept.trans Going.laws owner s) step

/-- Every row with operands of its own kind keeps the laws of single blocks. -/
theorem lawsKept_row {i : Instr} {s t : State} (formed : i.wellFormed = true) (step : exec i s = .next t) :
    LawsKept s t := by
  cases quiet : changing i
  · exact (going_row formed quiet step).laws
  · cases i
    case bind => exact lawsKept_command lawsKept_takeBind step
    case profileLoad => exact lawsKept_command lawsKept_takeProfileLoad step
    case snapshot => exact lawsKept_command lawsKept_takeSnapshot step
    case popEvent => exact lawsKept_command lawsKept_takePopEvent step
    case takeCompletion => exact lawsKept_command lawsKept_takeTakeCompletion step
    case softReset => exact lawsKept_command (fun s => (kept_takeSoftReset s).1) step
    case resetAssert =>
      cases step
      exact lawsKept_powerOn ..
    case resetRelease =>
      cases step
      exact lawsKept_powerOn ..
    all_goals exact nomatch quiet

/-- A row changes nothing, or does what some row with operands of its own kind does. -/
theorem exec_formed {i : Instr} {s t : State} (step : exec i s = .next t) :
    t = s ∨ ∃ i' : Instr, i'.wellFormed = true ∧ exec i' s = .next t := by
  cases low : s.rstnLow
  · obtain ⟨i', formed, same⟩ := exec_wellFormed i low
    exact .inr ⟨i', formed, same ▸ step⟩
  · cases reset : isReset i
    · obtain ⟨f, row⟩ := exec_live reset
      have same := (row s).symm.trans step
      rw [live_of_reset low] at same
      exact .inl (Host.Outcome.next.inj same).symm
    · refine .inr ⟨i, ?_, step⟩
      cases i <;> first | rfl | exact nomatch reset

theorem lawsKept_exec {i : Instr} {s t : State} (step : exec i s = .next t) : LawsKept s t := by
  obtain rfl | ⟨i', formed, step'⟩ := exec_formed step
  · exact .refl _
  · exact lawsKept_row formed step'

/-- A step is a row on the state with the command taken from the queue, or changes nothing. -/
theorem step_cases {s t : State} (h : step s = .next t) : t = s ∨ ∃ i rest, exec i { s with pending := rest } = .next t := by
  unfold step at h
  split at h
  · cases h
    exact .inl rfl
  · next i rest _ => exact .inr ⟨i, rest, h⟩

theorem lawsKept_step {s t : State} (h : step s = .next t) : LawsKept s t := by
  obtain rfl | ⟨i, rest, row⟩ := step_cases h
  · exact .refl _
  · exact LawsKept.trans (t := { s with pending := rest }) ⟨id, id, id, id⟩ (lawsKept_exec row)

/-- Settles O54: every row keeps the event law (`lawsKept_step`). -/
theorem everyStepKeepsTheEventLaw : Obligations.EveryStepKeepsTheEventLaw :=
  fun _ _ law h => (lawsKept_step h).events law

/-- Settles O56: every row keeps the laws of the Port Table (`lawsKept_step`). -/
theorem everyStepKeepsThePortLaw : Obligations.EveryStepKeepsThePortLaw :=
  fun _ _ law h => (lawsKept_step h).records law

/-! ### Views, bindings and profiles -/

theorem viewsKept_command {s t : State} {hi code : BitVec 8} {d : Delivery} (owner : ∀ s, ViewsKept s (d s).1)
    (step : s.live (fun s => s.command hi code d) = .next t) : ViewsKept s t :=
  live_kept ViewsKept.refl (command_kept (R := ViewsKept) ViewsKept.trans Going.views owner s) step

/-- A command keeps whatever its owner keeps and the Command Unit has no part in. -/
theorem read_command {α : Type} {v : State → α} (apart : ∀ s c, v (withUnit s c) = v s) {s t : State}
    {hi code : BitVec 8} {d : Delivery} (owner : v (d (delivered s hi code)).1 = v (delivered s hi code))
    (step : s.live (fun s => s.command hi code d) = .next t) : v t = v s := by
  refine live_kept (R := fun s t => v t = v s) (fun _ => rfl) ?_ step
  obtain ⟨a, refused⟩ | taken := command_cases s hi code d
  · rw [refused]
    exact apart s _
  · rw [taken]
    exact (apart _ _).trans (owner.trans (apart s _))

/-- Settles O59: the rows that fill no view (`going_row`), and those of the other views. -/
theorem viewsChangeOnlyByTheirCommands : Obligations.ViewsChangeOnlyByTheirCommands := by
  intro i s t formed running not_soft idle step
  cases quiet : changing i
  · have views := (going_row formed quiet step).views
    exact ⟨fun _ => views.port idle, fun _ => views.event idle, fun _ => views.host idle⟩
  · cases i
    case bind =>
      have views := viewsKept_command viewsKept_takeBind step
      exact ⟨fun _ => views.port idle, fun _ => views.event idle, fun _ => views.host idle⟩
    case profileLoad =>
      have views := viewsKept_command viewsKept_takeProfileLoad step
      exact ⟨fun _ => views.port idle, fun _ => views.event idle, fun _ => views.host idle⟩
    case snapshot hi =>
      have kept : (takeSnapshot (delivered s hi 7#8)).1.ev.view = s.ev.view ∧
          (takeSnapshot (delivered s hi 7#8)).1.ht.view = s.ht.view := by
        obtain same | ⟨v, copied⟩ := takeSnapshot_cases (delivered s hi 7#8)
        · rw [same]
          exact ⟨rfl, rfl⟩
        · exact ⟨copied.eventView, copied.hostView⟩
      exact ⟨(nomatch ·), fun _ => read_command (v := fun s => s.ev.view) (fun _ _ => rfl) kept.1 step,
        fun _ => read_command (v := fun s => s.ht.view) (fun _ _ => rfl) kept.2 step⟩
    case popEvent hi =>
      have kept : (takePopEvent (delivered s hi 13#8)).1.pt.view = s.pt.view ∧
          (takePopEvent (delivered s hi 13#8)).1.ht.view = s.ht.view := by
        obtain same | ⟨r, rest, -, popped⟩ := takePopEvent_cases (delivered s hi 13#8)
        · rw [same]
          exact ⟨rfl, rfl⟩
        · rw [popped]
          exact ⟨rfl, rfl⟩
      exact ⟨fun _ => read_command (v := fun s => s.pt.view) (fun _ _ => rfl) kept.1 step, (nomatch ·),
        fun _ => read_command (v := fun s => s.ht.view) (fun _ _ => rfl) kept.2 step⟩
    case takeCompletion hi =>
      obtain ⟨x, taken⟩ := takeTakeCompletion_eq (delivered s hi 12#8)
      have kept : (takeTakeCompletion (delivered s hi 12#8)).1.pt.view = s.pt.view ∧
          (takeTakeCompletion (delivered s hi 12#8)).1.ev.view = s.ev.view := by
        rw [taken]
        exact ⟨rfl, rfl⟩
      exact ⟨fun _ => read_command (v := fun s => s.pt.view) (fun _ _ => rfl) kept.1 step,
        fun _ => read_command (v := fun s => s.ev.view) (fun _ _ => rfl) kept.2 step, (nomatch ·)⟩
    case softReset => exact nomatch not_soft
    case resetAssert => exact nomatch running
    case resetRelease => exact nomatch running
    all_goals exact nomatch quiet

/-- Every port bound in both states has its binding, and the profile it names, in both. -/
def BoundKept (s t : State) : Prop :=
  ∀ p : PortId, (s.port p).bound = true → (t.port p).bound = true →
    (t.port p).binding = (s.port p).binding ∧
    ∀ b, (s.port p).binding = some b → t.profile b.profile = s.profile b.profile

theorem boundKept_refl (s : State) : BoundKept s s := fun _ _ _ => ⟨rfl, fun _ _ => rfl⟩

theorem BindingsKept.boundKept {s t : State} (h : BindingsKept s t) : BoundKept s t := fun p _ hp =>
  ⟨(h.bindings p hp).2, fun b _ => by simp only [State.profile, h.profiles]⟩

/-- A command keeps of the bindings what its owner keeps. -/
theorem boundKept_command {s t : State} {hi code : BitVec 8} {d : Delivery}
    (owner : BoundKept (delivered s hi code) (d (delivered s hi code)).1)
    (step : s.live (fun s => s.command hi code d) = .next t) : BoundKept s t := by
  refine live_kept boundKept_refl ?_ step
  obtain ⟨a, refused⟩ | taken := command_cases s hi code d
  · rw [refused]
    exact boundKept_refl s
  · rw [taken]
    exact owner

theorem boundKept_takeBind (s : State) : BoundKept s (takeBind s).1 := by
  obtain same | ⟨p, b, unbound, -, bound⟩ := takeBind_cases s
  · rw [same]
    exact boundKept_refl s
  · intro q hq hq'
    have apart : q ≠ p := by
      rintro rfl
      exact absurd (hq.symm.trans unbound) (by decide)
    have same := State.port_setPort_of_ne s p q (moved s p .probing (some .host) fun r => r.bind b) apart
    have kept := (bound.bindings q hq').2
    rw [same] at kept
    exact ⟨kept, fun _ _ => by simp only [State.profile, bound.ps, State.setPort_ps]⟩

/-- R43: the profile that the binding of a bound port names is in use. -/
theorem inUse_of_bound {t : PortTable} {p : PortId} {b : Binding} (hp : t.ports[p].bound = true)
    (hb : t.ports[p].binding = some b) : t.profileInUse b.profile = true := by
  refine List.any_eq_true.2 ⟨p, List.mem_finRange p, ?_⟩
  simp only [hp, hb, Option.map_some, decide_true, Bool.and_self]

theorem boundKept_takeProfileLoad (s : State) : BoundKept s (takeProfileLoad s).1 := by
  obtain same | ⟨n, f, free, loaded⟩ := takeProfileLoad_cases s
  · rw [same]
    exact boundKept_refl s
  · rw [loaded]
    intro p hp _
    refine ⟨rfl, fun b hb => ?_⟩
    have apart : (n : Nat) ≠ b.profile := by
      intro e
      obtain rfl := Fin.ext e
      exact absurd ((inUse_of_bound hp hb).symm.trans free) (by decide)
    simp [State.profile, Vector.getElem_set_ne, apart]

theorem boundKept_row {i : Instr} {s t : State} (formed : i.wellFormed = true) (step : exec i s = .next t) :
    BoundKept s t := by
  cases quiet : changing i
  · exact (going_row formed quiet step).bindings.boundKept
  · cases i
    case bind => exact boundKept_command (boundKept_takeBind _) step
    case profileLoad => exact boundKept_command (boundKept_takeProfileLoad _) step
    case snapshot => exact boundKept_command (bindingsKept_takeSnapshot _).boundKept step
    case popEvent hi =>
      refine boundKept_command ?_ step
      obtain same | ⟨r, rest, -, popped⟩ := takePopEvent_cases (delivered s hi 13#8)
      · rw [same]
        exact boundKept_refl _
      · rw [popped]
        exact boundKept_refl _
    case takeCompletion hi =>
      refine boundKept_command ?_ step
      obtain ⟨x, taken⟩ := takeTakeCompletion_eq (delivered s hi 12#8)
      rw [taken]
      exact boundKept_refl _
    case softReset => exact boundKept_command (kept_takeSoftReset _).2.boundKept step
    case resetAssert =>
      cases step
      exact fun p _ bound => absurd ((bound_powerOn s true p).symm.trans bound) (by decide)
    case resetRelease =>
      cases step
      exact fun p _ bound => absurd ((bound_powerOn s false p).symm.trans bound) (by decide)
    all_goals exact nomatch quiet

/-- Settles O60: BIND takes an UNBOUND port, PROFILE_LOAD a profile that is not in use, and no other row binds a port or
installs a profile. -/
theorem boundPortKeepsItsBindingAndProfile : Obligations.BoundPortKeepsItsBindingAndProfile := by
  intro i s t p step
  obtain rfl | ⟨i', formed, step'⟩ := exec_formed step
  · exact boundKept_refl t p
  · exact boundKept_row formed step' p

end Sys2Proof.Laws
end

section
/-! PROOFS. Observations, transitions and the outcomes of jobs leave the bus side of the channels, the host queues, the
completion queue and the Command Unit: they only mark units stale and move ports in the urgent and probe queues
(`Recorded`). -/
namespace Sys2Proof.Laws

open Sys2Proof.Machine Sys2Proof.Safety

/-- A unit with its stale mark off. -/
def fresh : HeldUnit → HeldUnit
  | .job j => .job { j with stale := false }
  | .host r => .host { r with current := { r.current with stale := false } }

/-- `d` is `c` but for the stale mark of its unit and the urgent and probe queues. -/
structure SameBus (c d : Channel) : Prop where
  rest : d = { c with
    held := d.held
    sched := { c.sched with urgent := d.sched.urgent, probes := d.sched.probes } }
  held : d.held.map fresh = c.held.map fresh

theorem SameBus.refl (c : Channel) : SameBus c c := ⟨rfl, rfl⟩

theorem SameBus.trans {c d e : Channel} (a : SameBus c d) (b : SameBus d e) : SameBus c e :=
  ⟨by rw [b.rest, a.rest], b.held.trans a.held⟩

/-- `t` is `s` after record work: both channels are as `SameBus` says, the Host Transaction Unit and the Command Unit are as
they were. -/
structure Recorded (s t : State) : Prop where
  ht : t.ht = s.ht
  cu : t.cu = s.cu
  ch0 : SameBus s.ch0 t.ch0
  ch1 : SameBus s.ch1 t.ch1

theorem Recorded.refl (s : State) : Recorded s s := ⟨rfl, rfl, .refl _, .refl _⟩

theorem Recorded.trans {s t u : State} (a : Recorded s t) (b : Recorded t u) : Recorded s u :=
  ⟨b.ht.trans a.ht, b.cu.trans a.cu, a.ch0.trans b.ch0, a.ch1.trans b.ch1⟩

theorem Recorded.chan {s t : State} (h : Recorded s t) (ch : Chan) : SameBus (s.chan ch) (t.chan ch) := by
  cases ch
  · exact h.ch0
  · exact h.ch1

/-! ### Single changes -/

theorem recorded_setPort (s : State) (p : PortId) (r : PortRec) : Recorded s (s.setPort p r) :=
  ⟨rfl, rfl, .refl _, .refl _⟩

theorem recorded_modPort (s : State) (p : PortId) (f : PortRec → PortRec) : Recorded s (s.modPort p f) :=
  recorded_setPort ..

theorem recorded_post (s : State) (b : EventBody) : Recorded s (s.post b) := by
  cases hp : b.port? with
  | none =>
    rw [post_of_none s b hp]
    exact ⟨rfl, rfl, .refl _, .refl _⟩
  | some p =>
    rw [post_of_port s b p hp]
    exact ⟨rfl, rfl, .refl _, .refl _⟩

theorem recorded_onRecord (s : State) (p : PortId) (r : PortRec) (l : List EventBody) : Recorded s (onRecord s p r l) :=
  ⟨rfl, rfl, .refl _, .refl _⟩

theorem recorded_clearLive (s : State) (p : PortId) : Recorded s (s.clearLive p) := by
  rw [clearLive_eq]
  exact recorded_onRecord ..

theorem recorded_applyFetch (s : State) (f : FetchResult) : Recorded s (s.applyFetch f) := by
  rw [(applyFetch_frame s f).2]
  exact ⟨rfl, rfl, .refl _, .refl _⟩

theorem recorded_takeFetch (s : State) (need : PortState) (f : FetchResult) : Recorded s (s.takeFetch need f) := by
  unfold State.takeFetch
  split
  · exact recorded_applyFetch ..
  · exact .refl s

/-- R12, R131: marking a unit stale. -/
theorem fresh_markStale (p : PortId) (u : HeldUnit) : fresh (u.markStale p) = fresh u := by
  rw [markStale_eq]
  cases u with
  | job j => rfl
  | host r => cases h : r.current.txn.op <;> simp [staled, fresh, h]

theorem recorded_markStale (s : State) (p : PortId) : Recorded s (s.markStale p) := by
  have held : ∀ h : Option HeldUnit, (h.map (HeldUnit.markStale p)).map fresh = h.map fresh := by
    intro h
    cases h <;> simp [fresh_markStale]
  exact ⟨rfl, rfl, ⟨rfl, held _⟩, ⟨rfl, held _⟩⟩

/-- A claim on a scheduler that moves ports in the urgent and probe queues alone. -/
def QueuesOnly (f : Scheduler → Scheduler) : Prop :=
  ∀ c, f c = { c with urgent := (f c).urgent, probes := (f c).probes }

theorem recorded_modSched {f : Scheduler → Scheduler} (queues : QueuesOnly f) (s : State) (ch : Chan) :
    Recorded s (s.modSched ch f) := by
  have same : SameBus (s.chan ch) { s.chan ch with sched := f (s.chan ch).sched } := ⟨by rw [queues], rfl⟩
  cases ch
  · exact ⟨rfl, rfl, same, .refl _⟩
  · exact ⟨rfl, rfl, .refl _, same⟩

theorem recorded_schedOf {f : Scheduler → Scheduler} (queues : QueuesOnly f) (s : State) (b : Option Binding) :
    Recorded s (s.schedOf b f) := by
  cases b with
  | none => exact .refl s
  | some b => exact recorded_modSched queues s b.channel

theorem queuesOnly_pushProbe (p : PortId) (k : ProbeKind) : QueuesOnly fun c => c.pushProbe p k := fun c => by
  simp only [pushProbe_eq]
  rfl

theorem queuesOnly_returnProbe (p : PortId) (k : ProbeKind) : QueuesOnly fun c => c.returnProbe p k := fun c => by
  simp only [returnProbe_eq]
  rfl

theorem queuesOnly_leave (p : PortId) (old : PortState) : QueuesOnly fun c => c.leave p old := fun c => by
  simp only [leave_eq]
  rfl

theorem queuesOnly_enter (p : PortId) (new : PortState) : QueuesOnly fun c => c.enter p new := fun c => by
  simp only [enter_eq]
  split <;> rfl

/-! ### Transitions and outcomes -/

theorem recorded_transition (s : State) (p : PortId) (new : PortState) (why : Option Reason) (eff : PortRec → PortRec) :
    Recorded s (s.transition p new why eff) :=
  ((((recorded_setPort s p (moved s p new why eff)).trans (recorded_markStale ..)).trans
    (recorded_schedOf (queuesOnly_leave _ _) ..)).trans (recorded_schedOf (queuesOnly_enter _ _) ..)).trans
    (recorded_post ..)

theorem recorded_scanOutcome (s : State) (p : PortId) (o : JobOutcome) : Recorded s (s.scanOutcome p o) := by
  cases o with
  | good => exact (recorded_modPort s p _).trans (recorded_markStale _ p)
  | noAnswer =>
    have counted : Recorded s (s.modPort p fun r =>
        { r with missCount := if r.missCount < s.pt.missLimit then r.missCount + 1 else r.missCount }) :=
      recorded_modPort ..
    simp only [State.scanOutcome]
    split
    · exact (counted.trans (recorded_clearLive _ p)).trans (recorded_transition _ p _ _ id)
    · exact counted.trans (recorded_markStale _ p)
  | markerMismatch =>
    simp only [State.scanOutcome]
    exact (recorded_clearLive s p).trans
      (recorded_transition (s.clearLive p) p .probing (some .remoteReset) fun r => { r with attemptCount := 0 })
  | _ => exact .refl s

theorem recorded_probeFailed (s : State) (p : PortId) (why : Reason) : Recorded s (s.probeFailed p why) := by
  have counted : Recorded s (s.modPort p fun r =>
      { r with attemptCount := if r.attemptCount < s.pt.attemptLimit then r.attemptCount + 1 else r.attemptCount }) :=
    recorded_modPort ..
  simp only [State.probeFailed]
  split
  · exact counted.trans (recorded_transition _ p _ _ id)
  · exact (counted.trans (recorded_modPort _ p _)).trans (recorded_markStale _ p)

theorem recorded_requeue (s : State) (p : PortId) (k : ProbeKind) : Recorded s (s.requeue p k) :=
  recorded_schedOf (queuesOnly_returnProbe p k) ..

theorem recorded_probeOutcome (s : State) (p : PortId) (o : JobOutcome) : Recorded s (s.probeOutcome p o) := by
  cases o with
  | good => exact recorded_transition s p .active _ fun r => { r with missCount := 0, lastGood := some s.stamp }
  | noAnswer => exact recorded_probeFailed ..
  | setup => exact recorded_probeFailed ..
  | identity => exact recorded_transition s p .failed _ id
  | busFault => exact recorded_requeue ..
  | aborted => exact recorded_requeue ..
  | markerMismatch => exact .refl s

theorem recorded_presenceOutcome (s : State) (p : PortId) (o : JobOutcome) : Recorded s (s.presenceOutcome p o) := by
  cases o with
  | good => exact recorded_transition s p .probing _ fun r => { r with attemptCount := 0 }
  | noAnswer => exact (recorded_modPort ..).trans (recorded_markStale ..)
  | busFault => exact recorded_requeue ..
  | aborted => exact recorded_requeue ..
  | _ => exact .refl s

theorem recorded_jobOutcome (s : State) (j : Job) (o : JobOutcome) : Recorded s (s.jobOutcome j o) := by
  unfold State.jobOutcome
  split
  · exact .refl s
  · split
    · exact recorded_probeOutcome ..
    · exact recorded_presenceOutcome ..
    · exact recorded_scanOutcome ..

theorem recorded_pieceResult (s : State) (j : Job) (a : Access) : Recorded s (s.pieceResult j a) := by
  unfold State.pieceResult
  split
  · exact .refl s
  · split
    · unfold State.storeIdentity
      split
      · exact recorded_modPort ..
      · exact .refl s
    · exact recorded_takeFetch ..
    · exact .refl s

theorem recorded_absorb (s : State) (ch : Chan) (m : HostMember) (a : Access) : Recorded s (s.absorb ch m a) := by
  unfold State.absorb
  split
  · exact .refl s
  · split
    · unfold State.absorbRaw
      split
      · exact .refl s
      · split
        · exact .refl s
        · split
          · exact .refl s
          · split
            · exact recorded_takeFetch ..
            · exact .refl s
    · split
      · exact .refl s
      · exact recorded_takeFetch ..
    · exact .refl s

/-! ### What record work leaves of a channel -/

theorem SameBus.isSome {c d : Channel} (h : SameBus c d) : d.held.isSome = c.held.isSome := by
  simpa using congrArg Option.isSome h.held

/-- A job stays a job. -/
theorem SameBus.job {c d : Channel} (h : SameBus c d) {j : Job} (held : c.held = some (.job j)) :
    ∃ b, d.held = some (.job { j with stale := b }) := by
  have same := h.held
  rw [held] at same
  cases hd : d.held with
  | none => simp [hd] at same
  | some u =>
    cases u with
    | job k =>
      refine ⟨k.stale, ?_⟩
      simp only [hd, Option.map_some, fresh, Option.some.injEq, HeldUnit.job.injEq] at same
      cases k
      cases j
      simp_all
    | host r => simp [hd, fresh] at same

/-- A host unit stays one. -/
theorem SameBus.host {c d : Channel} (h : SameBus c d) {r : HostRun} (held : c.held = some (.host r)) :
    ∃ b, d.held = some (.host { r with current := { r.current with stale := b } }) := by
  have same := h.held
  rw [held] at same
  cases hd : d.held with
  | none => simp [hd] at same
  | some u =>
    cases u with
    | job k => simp [hd, fresh] at same
    | host q =>
      refine ⟨q.current.stale, ?_⟩
      obtain ⟨done, ⟨txn, device, profile, access, stale⟩, todo⟩ := q
      obtain ⟨done', ⟨txn', device', profile', access', stale'⟩, todo'⟩ := r
      simp_all [fresh]

theorem SameBus.inFlight {c d : Channel} (h : SameBus c d) : d.inFlightCount = c.inFlightCount := by
  cases hc : c.held with
  | none =>
    have : d.held = none := by simpa [hc] using h.isSome
    simp [Channel.inFlightCount, hc, this]
  | some u =>
    cases u with
    | job j =>
      obtain ⟨b, hd⟩ := h.job hc
      simp [Channel.inFlightCount, hc, hd]
    | host r =>
      obtain ⟨b, hd⟩ := h.host hc
      simp [Channel.inFlightCount, hc, hd]

end Sys2Proof.Laws
end

section
/-! PROOFS. How a unit goes on when a frame of it has ended, and how a decision ends: the unit hands a frame over or frees the
channel (`UnitMoves`), and one decision is nothing, a grant to the device side or a grant to the host side
(`decideOnce_cases`). -/
namespace Sys2Proof.Laws

open Sys2Proof.Machine Sys2Proof.Safety

/-! ### Units -/

/-- R126: the transactions that a unit holds. -/
def unitLoad : HeldUnit → Nat
  | .job _ => 0
  | .host r => r.done.length + 1 + r.todo.length

theorem inFlightCount_eq (c : Channel) : c.inFlightCount = (c.held.map unitLoad).getD 0 := by
  unfold Channel.inFlightCount
  cases c.held with
  | none => rfl
  | some u => cases u <;> rfl

/-- R109, R113: a host member's next frame handed over. -/
theorem runHost_eq (c : Channel) (r : HostRun) :
    c.runHost r = frameHanded c (.host r) (unitFrame (.host r)) r.current.mayOmit := rfl

/-- R100: a job's end is the end of a unit with no completion records. -/
theorem endHost_nil (s : State) (ch : Chan) : s.endHost ch [] = s.modChan ch fun c => { c with held := none } := by
  simp [State.endHost]

/-- R100, R109: `t` is `s` after record work and then either the end of the unit of a channel, with completion records, or a
frame that a unit of the channel hands over; `n` transactions are in the records or the unit. -/
def UnitMoves (s t : State) (ch : Chan) (n : Nat) : Prop :=
  ∃ u, Recorded s u ∧
    ((∃ l, l.length = n ∧ t = u.endHost ch l) ∨
      ∃ h mayOmit, unitLoad h = n ∧ t = u.modChan ch fun c => frameHanded c h (unitFrame h) mayOmit)

theorem UnitMoves.after {s t v : State} {ch : Chan} {n : Nat} (first : Recorded s v) (h : UnitMoves v t ch n) :
    UnitMoves s t ch n := by
  obtain ⟨u, recorded, moves⟩ := h
  exact ⟨u, first.trans recorded, moves⟩

theorem unitMoves_free (s : State) (ch : Chan) : UnitMoves s (s.modChan ch fun c => { c with held := none }) ch 0 :=
  ⟨s, .refl s, .inl ⟨[], rfl, (endHost_nil s ch).symm⟩⟩

theorem unitMoves_endHost {s : State} {ch : Chan} {l : List Completion} {n : Nat} (h : l.length = n) :
    UnitMoves s (s.endHost ch l) ch n := ⟨s, .refl s, .inl ⟨l, h, rfl⟩⟩

theorem unitMoves_runJob (s : State) (ch : Chan) (j : Job) : UnitMoves s (s.modChan ch fun c => c.runJob j) ch 0 :=
  ⟨s, .refl s, .inr ⟨.job j, _, rfl, rfl⟩⟩

theorem unitMoves_runHost {s : State} {ch : Chan} {r : HostRun} {n : Nat} (h : unitLoad (.host r) = n) :
    UnitMoves s (s.modChan ch fun c => c.runHost r) ch n :=
  ⟨s, .refl s, .inr ⟨.host r, _, h, rfl⟩⟩

theorem unitMoves_endJob (s : State) (ch : Chan) (j : Job) (o : JobOutcome) : UnitMoves s (s.endJob ch j o) ch 0 :=
  (unitMoves_free ..).after (recorded_jobOutcome s j o)

theorem unitMoves_jobFrameEnd (s : State) (ch : Chan) (j : Job) (res : FrameResult) :
    UnitMoves s (s.jobFrameEnd ch j res) ch 0 := by
  unfold State.jobFrameEnd
  dsimp only
  split
  · unfold State.pieceEnd
    dsimp only
    refine UnitMoves.after (recorded_pieceResult s j (j.advance res).1) ?_
    split
    · exact unitMoves_endJob ..
    · unfold State.continueJob
      split
      · exact unitMoves_endJob ..
      · exact unitMoves_runJob ..
  · exact unitMoves_runJob ..

theorem unitMoves_hostProceed (s : State) (ch : Chan) (done : List Completion) (todo : List HostTxn) :
    UnitMoves s (s.hostProceed ch done todo) ch (done.length + todo.length) := by
  induction todo generalizing done with
  | nil => exact unitMoves_endHost rfl
  | cons t rest ih =>
    unfold State.hostProceed
    split
    · next r _ =>
      have later := ih (done ++ [⟨t, r, none⟩])
      rwa [List.length_append, List.length_singleton, Nat.add_assoc, Nat.add_comm 1] at later
    · exact unitMoves_runHost (by simp [unitLoad]; omega)

theorem unitMoves_hostFrameEnd (s : State) (ch : Chan) (r : HostRun) (res : FrameResult) :
    UnitMoves s (s.hostFrameEnd ch r res) ch (unitLoad (.host r)) := by
  unfold State.hostFrameEnd
  dsimp only
  split
  · have later := unitMoves_hostProceed (s.absorb ch r.current (r.current.advance res).1) ch
      (r.done ++ [r.current.completion (r.current.advance res).1]) r.todo
    rw [List.length_append, List.length_singleton] at later
    exact later.after (recorded_absorb ..)
  · exact unitMoves_runHost rfl

/-- R111: the unit that holds a channel takes the result of its frame. -/
theorem unitMoves_unitFrameEnd {s : State} {ch : Chan} {u : HeldUnit} (held : (s.chan ch).held = some u)
    (res : FrameResult) : UnitMoves s (s.unitFrameEnd ch res) ch (unitLoad u) := by
  unfold State.unitFrameEnd
  rw [held]
  cases u with
  | job j => exact unitMoves_jobFrameEnd ..
  | host r => exact unitMoves_hostFrameEnd ..

/-- R100: `t` is `s` after record work and the end of the unit of a channel with records of `n` transactions. -/
def UnitEnds (s t : State) (ch : Chan) (n : Nat) : Prop :=
  ∃ u l, Recorded s u ∧ l.length = n ∧ t = u.endHost ch l

theorem unitEnds_endJob (s : State) (ch : Chan) (j : Job) (o : JobOutcome) : UnitEnds s (s.endJob ch j o) ch 0 :=
  ⟨s.jobOutcome j o, [], recorded_jobOutcome .., rfl, (endHost_nil ..).symm⟩

/-- R110, R117: a unit cut short ends. -/
theorem unitEnds_cutUnit {s : State} {ch : Chan} {u : HeldUnit} (held : (s.chan ch).held = some u) (o : JobOutcome)
    (res : HostResult) : UnitEnds s (s.cutUnit ch o res) ch (unitLoad u) := by
  unfold State.cutUnit
  rw [held]
  cases u with
  | job j => exact unitEnds_endJob ..
  | host r => exact ⟨s, _, .refl s, by simp [unitLoad]; omega, rfl⟩

/-- R117: the unit whose last frame ends in an abort drain ends. -/
theorem unitEnds_abortFrameEnd {s : State} {ch : Chan} {u : HeldUnit} (held : (s.chan ch).held = some u)
    (res : FrameResult) : UnitEnds s (s.abortFrameEnd ch res) ch (unitLoad u) := by
  unfold State.abortFrameEnd
  split
  · next none_held => simp [held] at none_held
  · next j is_job =>
    obtain rfl : u = .job j := by simpa [held] using is_job
    dsimp only
    split
    · obtain ⟨v, l, recorded, length, ends⟩ := unitEnds_endJob (s.pieceResult j (j.advance res).1) ch j .aborted
      exact ⟨v, l, (recorded_pieceResult ..).trans recorded, length, ends⟩
    · exact unitEnds_endJob ..
  · next r is_host =>
    obtain rfl : u = .host r := by simpa [held] using is_host
    dsimp only
    split
    · exact ⟨_, _, recorded_absorb .., by simp [unitLoad]; omega, rfl⟩
    · exact unitEnds_cutUnit held ..

/-! ### Decisions -/

/-- What every decision keeps, a notice keeps. -/
theorem decideLoop_keeps {P : State → Prop} {ch : Chan}
    (decision : ∀ s, P s → s.mayDecide ch = true → P (s.decideOnce ch).1) (fuel : Nat) {s : State} (h : P s) :
    P (s.decideLoop ch fuel) := by
  induction fuel generalizing s with
  | zero => exact h
  | succ n ih =>
    unfold State.decideLoop
    split
    · next may =>
      dsimp only
      split
      · exact ih (decision s h may)
      · exact decision s h may
    · exact h

theorem notice_keeps {P : State → Prop} {ch : Chan}
    (decision : ∀ s, P s → s.mayDecide ch = true → P (s.decideOnce ch).1) {s : State} (h : P s) : P (s.notice ch) :=
  decideLoop_keeps decision _ h

theorem noticeOf_keeps {P : State → Prop} (decision : ∀ ch s, P s → s.mayDecide ch = true → P (s.decideOnce ch).1)
    {s : State} (h : P s) (b : Option Binding) : P (s.noticeOf b) := by
  cases b with
  | none => exact h
  | some b => exact notice_keeps (decision b.channel) h

/-- R95: when an arbiter may decide. -/
theorem mayDecide_iff (s : State) (ch : Chan) :
    s.mayDecide ch = true ↔
      (s.chan ch).state = .idle ∧ (s.chan ch).held = none ∧ s.cu.softResetting = false := by
  simp [State.mayDecide, and_assoc]

/-- The part after a consultation. -/
def consulted (s : State) (ch : Chan) : State := s.modSched ch fun _ => (s.consult ch).1

theorem chan_consulted (s : State) (ch : Chan) :
    (consulted s ch).chan ch = { s.chan ch with sched := (s.consult ch).1 } := by
  simp [consulted]

theorem hostReady_consulted (s : State) (ch : Chan) :
    ((consulted s ch).chan ch).hostReady = (s.chan ch).hostReady := by
  rw [chan_consulted]
  rfl

/-- R97: a ready host side has a unit at the head, and it is no open chain. -/
theorem hostQueue_of_ready {c : Channel} (h : c.hostReady = true) :
    ∃ u rest, c.hostQueue = u :: rest ∧ (c.chainOpen = true → rest ≠ []) := by
  unfold Channel.hostReady at h
  cases queue : c.hostQueue with
  | nil => simp [queue] at h
  | cons u rest =>
    refine ⟨u, rest, rfl, fun opened => ?_⟩
    rintro rfl
    simp [queue, opened] at h

/-- R98, R99: the channel as a grant to the host side leaves it before the unit's members are judged. -/
def hostGranted (c : Channel) (rest : List (List HostTxn)) : Channel :=
  { c with hostQueue := rest, hostTurn := c.hostTurn - 1 }

/-- R95 to R99: one decision. -/
theorem decideOnce_cases (s : State) (ch : Chan) :
    ((s.consult ch).2 = none ∧ (s.chan ch).hostReady = false ∧ s.decideOnce ch = (consulted s ch, false)) ∨
    (∃ x, (s.consult ch).2 = some x ∧ s.decideOnce ch = ((consulted s ch).grantDevice ch x, false)) ∨
    ∃ u rest, (s.chan ch).hostQueue = u :: rest ∧ ((s.chan ch).chainOpen = true → rest ≠ []) ∧
      s.decideOnce ch =
        (((consulted s ch).modChan ch fun c => hostGranted c rest).hostProceed ch [] u, true) := by
  have host : (s.chan ch).hostReady = true → ∃ u rest, (s.chan ch).hostQueue = u :: rest ∧
      ((s.chan ch).chainOpen = true → rest ≠ []) ∧ (consulted s ch).grantHost ch =
        ((consulted s ch).modChan ch fun c => hostGranted c rest).hostProceed ch [] u := by
    intro ready
    obtain ⟨u, rest, queue, tail⟩ := hostQueue_of_ready ready
    have head : ((consulted s ch).chan ch).hostQueue = u :: rest := by rw [chan_consulted]; exact queue
    refine ⟨u, rest, queue, tail, ?_⟩
    simp only [State.grantHost, head]
    rfl
  have rule : s.decideOnce ch = (consulted s ch).turnRule ch (s.consult ch).2 := rfl
  rw [rule]
  unfold State.turnRule
  dsimp only
  rw [hostReady_consulted]
  split
  · next x found =>
    split
    · next turn =>
      obtain ⟨u, rest, queue, tail, granted⟩ := host (by simp at turn; exact turn.1)
      exact .inr (.inr ⟨u, rest, queue, tail, by rw [granted]⟩)
    · exact .inr (.inl ⟨x, found, rfl⟩)
  · next found =>
    split
    · next ready =>
      obtain ⟨u, rest, queue, tail, granted⟩ := host ready
      exact .inr (.inr ⟨u, rest, queue, tail, by rw [granted]⟩)
    · next ready => exact .inl ⟨found, by simpa using ready, rfl⟩

/-! ### What a consultation leaves of a scheduler -/

/-- R74: a walk stops at or before the end of the list, and before it at an entry found. -/
theorem walkFrom_le (s : State) (ch : Chan) (l : List PortId) (n : Nat) :
    (s.walkFrom ch l n).1 ≤ n + l.length ∧
    ((s.walkFrom ch l n).2.isSome = true → (s.walkFrom ch l n).1 < n + l.length) := by
  induction l generalizing n with
  | nil => simp [State.walkFrom]
  | cons p l ih =>
    unfold State.walkFrom
    split
    · simp
    · obtain ⟨le, lt⟩ := ih (n + 1)
      rw [List.length_cons, Nat.add_comm l.length, ← Nat.add_assoc]
      exact ⟨le, lt⟩

/-- A scheduler after a consultation: in its law, with its timer stopped exactly when it was, and with the walk before the
end of the list when the source is the entry there. -/
structure Consulted (c d : Scheduler) (x : Option Source) : Prop where
  law : SchedLaw d
  stopped : d.passTimer = .stopped ↔ c.passTimer = .stopped
  entry : ∀ p, x = some (.regular, p) → ∀ q ∈ d.pass, q.position < q.list.length

/-- R75: the end of a walk keeps the law and the timer's being stopped. -/
theorem schedLaw_endWalk {c : Scheduler} (h : SchedLaw c) (adds : List PortId) :
    SchedLaw (c.endWalk adds) ∧ ((c.endWalk adds).passTimer = .stopped ↔ c.passTimer = .stopped) := by
  unfold Scheduler.endWalk
  rw [foldl_pushUrgent]
  dsimp only
  split
  · next waiting =>
    have expired := h.expired.2 waiting
    split
    · exact ⟨⟨h.interval, h.length, by rintro q ⟨⟩; exact Nat.zero_le _, by simp [Scheduler.startPass], nofun⟩,
        by simp [Scheduler.startPass, expired]⟩
    · exact ⟨⟨h.interval, h.length, by simp [Scheduler.startTimer], by simp [Scheduler.startTimer], nofun⟩,
        by simp [Scheduler.startTimer, expired]⟩
  · next waiting => exact ⟨⟨h.interval, h.length, nofun, h.expired, fun was => absurd was waiting⟩, Iff.rfl⟩

/-- R74: a walk keeps the law and the timer, and stands before the end of the list at an entry found. -/
theorem walk_consulted {c : Scheduler} (h : SchedLaw c) (s : State) (ch : Chan) :
    Consulted c (s.walk ch c).1 ((s.walk ch c).2.map fun p => (.regular, p)) := by
  unfold State.walk
  split
  · exact ⟨h, Iff.rfl, by simp⟩
  · next q opened =>
    have le := h.position q opened
    have walked := walkFrom_le s ch (q.list.drop q.position) q.position
    rw [List.length_drop, Nat.add_sub_cancel' le] at walked
    refine ⟨⟨h.interval, h.length, ?_, h.expired, fun _ => rfl⟩, Iff.rfl, fun p found => ?_⟩
    · rintro q' ⟨⟩
      exact walked.1
    · rintro q' ⟨⟩
      refine walked.2 ?_
      cases found_entry : (s.walkFrom ch (q.list.drop q.position) q.position).2 with
      | none => simp [found_entry] at found
      | some _ => rfl

theorem consultAgain_consulted {c : Scheduler} (h : SchedLaw c) (s : State) (ch : Chan) :
    Consulted c (s.consultAgain ch c).1 (s.consultAgain ch c).2 := by
  have walked := walk_consulted h s ch
  unfold State.consultAgain
  split
  · exact ⟨h, Iff.rfl, by simp⟩
  · split
    · exact ⟨h, Iff.rfl, by simp⟩
    · split
      · next found =>
        rw [found] at walked
        exact walked
      · next found =>
        rw [found] at walked
        obtain ⟨law, stopped⟩ := schedLaw_endWalk walked.law (s.passEndPorts ch)
        exact ⟨law, stopped.trans walked.stopped, by simp⟩

/-- R96: what a consultation leaves of its scheduler. -/
theorem consult_consulted {s : State} {ch : Chan} (h : SchedLaw (s.chan ch).sched) :
    Consulted (s.chan ch).sched (s.consult ch).1 (s.consult ch).2 := by
  have walked := walk_consulted h s ch
  unfold State.consult
  dsimp only
  split
  · next p k _ _ => exact ⟨h, Iff.rfl, by cases k <;> simp [ProbeKind.unit]⟩
  · split
    · exact ⟨h, Iff.rfl, by simp⟩
    · split
      · exact ⟨h, Iff.rfl, by simp⟩
      · split
        · next found =>
          rw [found] at walked
          exact walked
        · next found =>
          rw [found] at walked
          obtain ⟨law, stopped⟩ := schedLaw_endWalk walked.law (s.passEndPorts ch)
          have again := consultAgain_consulted law s ch
          exact ⟨again.law, (again.stopped.trans stopped).trans walked.stopped, again.entry⟩

end Sys2Proof.Laws
end

section
/-! PROOFS. A predicate that the owners of units, queues and bindings keep is kept by every row (`Rules.step`): the other rows
leave alone what the predicate speaks of (`Apart`). -/
namespace Sys2Proof.Laws

open Sys2Proof.Machine Sys2Proof.Safety

/-- `t` is `s` but for what no unit, queue, timer of a port or drain depends on. -/
structure Apart (s t : State) : Prop where
  ch0 : t.ch0 = s.ch0
  ch1 : t.ch1 = s.ch1
  ht : t.ht = s.ht
  timed : t.cu.timed = s.cu.timed
  profiles : t.ps.profiles = s.ps.profiles
  state : ∀ p, (t.port p).state = (s.port p).state
  binding : ∀ p, (t.port p).binding = (s.port p).binding
  probeRetry : ∀ p, (t.port p).probeRetry = (s.port p).probeRetry
  lostCheck : ∀ p, (t.port p).lostCheck = (s.port p).lostCheck

theorem Apart.refl (s : State) : Apart s s := ⟨rfl, rfl, rfl, rfl, rfl, fun _ => rfl, fun _ => rfl, fun _ => rfl, fun _ => rfl⟩

/-- A part replaced whose ports, channels, host table, profiles and timed command are those of `s`. -/
theorem apart_of_same {s t : State} (pt : t.pt = s.pt) (ch0 : t.ch0 = s.ch0) (ch1 : t.ch1 = s.ch1) (ht : t.ht = s.ht)
    (timed : t.cu.timed = s.cu.timed) (profiles : t.ps.profiles = s.ps.profiles) : Apart s t := by
  have port : ∀ p, t.port p = s.port p := fun p => by simp only [State.port, pt]
  exact ⟨ch0, ch1, ht, timed, profiles, fun p => by rw [port], fun p => by rw [port], fun p => by rw [port],
    fun p => by rw [port]⟩

/-- The Port Table replaced by one with the same records. -/
theorem apart_table {s : State} {x : PortTable} (ports : x.ports = s.pt.ports) : Apart s { s with pt := x } := by
  have port : ∀ p, State.port { s with pt := x } p = s.port p := fun p => by simp only [State.port, ports]
  exact ⟨rfl, rfl, rfl, rfl, rfl, fun p => by rw [port], fun p => by rw [port], fun p => by rw [port],
    fun p => by rw [port]⟩

/-- A record with its state, binding and timers as they were. -/
theorem apart_setPort {s : State} {p : PortId} {r : PortRec} (state : r.state = (s.port p).state)
    (binding : r.binding = (s.port p).binding) (probeRetry : r.probeRetry = (s.port p).probeRetry)
    (lostCheck : r.lostCheck = (s.port p).lostCheck) : Apart s (s.setPort p r) := by
  have read : ∀ {α : Type} (f : PortRec → α), f r = f (s.port p) → ∀ q, f ((s.setPort p r).port q) = f (s.port q) := by
    intro α f same q
    rw [State.port_setPort]
    split
    · next h => rw [h, same]
    · rfl
  exact ⟨rfl, rfl, rfl, rfl, rfl, read PortRec.state state, read PortRec.binding binding,
    read PortRec.probeRetry probeRetry, read PortRec.lostCheck lostCheck⟩

/-- What the owners of units, queues, bindings and drains keep of a predicate. A command reaches its owner with no timed
command in progress. -/
structure Rules (P : State → Prop) : Prop where
  apart : ∀ {s t}, Apart s t → P s → P t
  bind : ∀ {s}, s.cu.timed = none → P s → P (takeBind s).1
  unbind : ∀ {s}, s.cu.timed = none → P s → P (takeUnbind s).1
  suspend : ∀ {s}, s.cu.timed = none → P s → P (takeSuspend s).1
  resume : ∀ {s}, s.cu.timed = none → P s → P (takeResume s).1
  retry : ∀ {s}, s.cu.timed = none → P s → P (takeRetry s).1
  scanEntry : ∀ {s}, s.cu.timed = none → P s → P (takeSetScanEntry s).1
  scanLength : ∀ {s}, s.cu.timed = none → P s → P (takeSetScanLength s).1
  profileLoad : ∀ {s}, s.cu.timed = none → P s → P (takeProfileLoad s).1
  post : ∀ {s}, s.cu.timed = none → P s → P (takePost s).1
  takeCompletion : ∀ {s}, s.cu.timed = none → P s → P (takeTakeCompletion s).1
  enable : ∀ {s}, s.cu.timed = none → P s → P (takeChannelEnable s).1
  abort : ∀ {s}, s.cu.timed = none → P s → P (takeChannelAbort s).1
  restart : ∀ {s} level, s.cu.timed = none → P s → P (takeChannelRestart level s).1
  softReset : ∀ {s}, s.cu.timed = none → P s → P (takeSoftReset s).1
  divider : ∀ {s} ch v, P s → P (s.takeDivider ch v).1
  passInterval : ∀ {s} ch v, P s → P (s.takePassInterval ch v).1
  hostWeight : ∀ {s} ch v, P s → P (s.takeHostWeight ch v).1
  channelStatus : ∀ {s} ch v, P s → P (s.takeChannelStatus ch v)
  tick : ∀ {s} atn, P s → P (s.tick atn)
  probeRetryExpiry : ∀ {s} p, P s → P (s.probeRetryExpiry p)
  lostCheckExpiry : ∀ {s} p, P s → P (s.lostCheckExpiry p)
  passIntervalExpiry : ∀ {s} ch, P s → P (s.passIntervalExpiry ch)
  idleLineCheck : ∀ {s} ch level, P s → P (s.takeIdleLineCheck ch level)
  frameEnd : ∀ {s} ch turnaround data, P s → P (s.takeFrameEnd ch turnaround data)
  powerOn : ∀ (s : State) (low : Bool), P (s.powerOn low)

/-! ### Owners that leave what the predicate speaks of -/

/-- R188: what holds of either answer of a command of a port. -/
theorem onNamedPort_keeps {P : State → Prop} {s : State} {f : PortId → State × Answer} (h : P s) (each : ∀ p, P (f p).1) :
    P (s.onNamedPort f).1 := by
  unfold State.onNamedPort
  split
  · exact h
  · exact each _

/-- R188: what holds of either answer of a command of a channel. -/
theorem onNamedChannel_keeps {P : State → Prop} {s : State} {f : Chan → State × Answer} (h : P s)
    (each : ∀ ch, P (f ch).1) : P (s.onNamedChannel f).1 := by
  unfold State.onNamedChannel
  split
  · exact h
  · exact each _

theorem apart_takeAck (s : State) : Apart s (takeAck s).1 := by
  refine onNamedPort_keeps (P := fun t => Apart s t) (.refl s) fun p => ?_
  split
  · exact .refl s
  · exact apart_setPort rfl rfl rfl rfl

theorem apart_takeSnapshot (s : State) : Apart s (takeSnapshot s).1 := by
  refine onNamedPort_keeps (P := fun t => Apart s t) (.refl s) fun p => ?_
  have cleared := apart_setPort (s := s) (p := p) (r := { s.port p with resync := false }) rfl rfl rfl rfl
  exact ⟨rfl, rfl, rfl, rfl, rfl, cleared.state, cleared.binding, cleared.probeRetry, cleared.lostCheck⟩

theorem apart_takePopEvent (s : State) : Apart s (takePopEvent s).1 := by
  obtain same | ⟨r, rest, -, popped⟩ := takePopEvent_cases s
  · rw [same]
    exact .refl s
  · rw [popped]
    exact apart_of_same rfl rfl rfl rfl rfl rfl

theorem apart_takeOverride (s : State) : Apart s (takeOverride s).1 := by
  unfold takeOverride
  split
  · exact apart_of_same rfl rfl rfl rfl rfl rfl
  · exact .refl s

theorem apart_takeCancelOverride (s : State) : Apart s (takeCancelOverride s).1 := by
  unfold takeCancelOverride
  split
  · exact .refl s
  · split
    · exact .refl s
    · exact apart_of_same rfl rfl rfl rfl rfl rfl

theorem apart_takeSetRate (s : State) : Apart s (takeSetRate s).1 := by
  unfold takeSetRate
  split
  · exact .refl s
  · dsimp only
    split
    · split
      · exact apart_of_same rfl rfl rfl rfl rfl rfl
      · exact apart_of_same rfl rfl rfl rfl rfl rfl
      · exact .refl s
    · exact .refl s

theorem apart_takeThreshold (v : Word) (s : State) : Apart s (takeThreshold v s).1 := by
  unfold takeThreshold
  split
  · exact apart_of_same rfl rfl rfl rfl rfl rfl
  · exact .refl s

theorem apart_takeMissLimit (v : Word) (s : State) : Apart s (takeMissLimit v s).1 := by
  unfold takeMissLimit
  split
  · exact .refl s
  · split
    · exact .refl s
    · exact apart_table rfl

theorem apart_takeAttemptLimit (v : Word) (s : State) : Apart s (takeAttemptLimit v s).1 := by
  unfold takeAttemptLimit
  split
  · exact .refl s
  · split
    · exact .refl s
    · exact apart_table rfl

theorem apart_takeRetryInterval (v : Word) (s : State) : Apart s (takeRetryInterval v s).1 := by
  unfold takeRetryInterval
  split
  · exact .refl s
  · exact apart_table rfl

theorem apart_takeLostInterval (v : Word) (s : State) : Apart s (takeLostInterval v s).1 := by
  unfold takeLostInterval
  split
  · exact .refl s
  · exact apart_table rfl

theorem apart_takeIndicatorIndex (v : Word) (s : State) : Apart s (takeIndicatorIndex v s).1 := by
  unfold takeIndicatorIndex
  split
  · exact .refl s
  · exact apart_of_same rfl rfl rfl rfl rfl rfl

theorem apart_takeIndicatorRecord (n : Fin 3) (v : Word) (s : State) : Apart s (takeIndicatorRecord n v s).1 := by
  unfold takeIndicatorRecord
  split
  · exact .refl s
  · exact apart_of_same rfl rfl rfl rfl rfl rfl

theorem apart_takeChainLength (v : Word) (s : State) : Apart s (takeChainLength v s).1 := by
  unfold takeChainLength
  split
  · exact apart_of_same rfl rfl rfl rfl rfl rfl
  · exact .refl s

theorem apart_takeFlashWidth (v : Word) (s : State) : Apart s (takeFlashWidth v s).1 := by
  unfold takeFlashWidth
  split
  · exact apart_of_same rfl rfl rfl rfl rfl rfl
  · exact .refl s

theorem apart_refresh (s : State) : Apart s s.refresh := by
  unfold State.refresh
  split
  · exact apart_of_same rfl rfl rfl rfl rfl rfl
  · exact .refl s

/-! ### Rows -/

section
variable {P : State → Prop} (rules : Rules P)
include rules

/-- R183: a command keeps what its owner keeps. -/
theorem Rules.command {hi code : BitVec 8} {d : Delivery} (owner : ∀ {s}, s.cu.timed = none → P s → P (d s).1)
    {s t : State} (h : P s) (step : s.live (fun s => s.command hi code d) = .next t) : P t := by
  refine live_kept (R := fun s t => P s → P t) (fun _ => id) (fun h => ?_) step h
  have begun : P (delivered s hi code) := rules.apart (s := s) (apart_of_same rfl rfl rfl rfl rfl rfl) h
  have shows : ∀ {u : State} (a : Answer), P u → P (u.showResult code a) := fun {u} a =>
    rules.apart (s := u) (apart_of_same rfl rfl rfl rfl rfl rfl)
  unfold State.command
  dsimp only
  split
  · exact shows _ begun
  · next idle => exact shows _ (owner (by simpa using idle) begun)

/-- R186: a checked write keeps what its owner keeps. -/
theorem Rules.checkedWrite {a : BitVec 7} {d : Delivery} (owner : ∀ {s}, P s → P (d s).1) {s t : State} (h : P s)
    (step : s.live (fun s => s.checkedWrite a d) = .next t) : P t := by
  refine live_kept (R := fun s t => P s → P t) (fun _ => id) (fun h => ?_) step h
  have shows : ∀ {u : State} (source : BitVec 8) (a : Answer), P u → P (u.showResult source a) := fun {u} source a =>
    rules.apart (s := u) (apart_of_same rfl rfl rfl rfl rfl rfl)
  unfold State.checkedWrite
  dsimp only
  split
  · exact shows _ _ h
  · exact shows _ _ (owner h)

omit rules in
/-- A row that is no command keeps what its meaning keeps. -/
theorem event_keeps {f : State → State} (meaning : ∀ {s}, P s → P (f s)) {s t : State} (h : P s)
    (step : s.live f = .next t) : P t :=
  live_kept (R := fun s t => P s → P t) (fun _ => id) meaning step h

/-- A row that is no command and leaves what the predicate speaks of. -/
theorem Rules.quiet {f : State → State} (away : ∀ s, Apart s (f s)) {s t : State} (h : P s)
    (step : s.live f = .next t) : P t :=
  event_keeps (f := f) (fun {s} => rules.apart (away s)) h step

/-- Every row with operands of its own kind. -/
theorem Rules.row {i : Instr} {s t : State} (formed : i.wellFormed = true) (step : exec i s = .next t) (h : P s) : P t := by
  have quiet : ∀ {d : Delivery}, (∀ s, Apart s (d s).1) → ∀ {s}, s.cu.timed = none → P s → P (d s).1 :=
    fun away _ _ => rules.apart (away _)
  have quiet' : ∀ {d : Delivery}, (∀ s, Apart s (d s).1) → ∀ {s}, P s → P (d s).1 := fun away _ => rules.apart (away _)
  cases i
  case nop => exact rules.command (quiet (d := fun s => (s, .done)) Apart.refl) h step
  case bind => exact rules.command rules.bind h step
  case unbind => exact rules.command rules.unbind h step
  case suspend => exact rules.command rules.suspend h step
  case resume => exact rules.command rules.resume h step
  case retry => exact rules.command rules.retry h step
  case ack => exact rules.command (quiet apart_takeAck) h step
  case snapshot => exact rules.command (quiet apart_takeSnapshot) h step
  case setScanEntry => exact rules.command rules.scanEntry h step
  case setScanLength => exact rules.command rules.scanLength h step
  case profileLoad => exact rules.command rules.profileLoad h step
  case postRawRead => exact rules.command rules.post h step
  case postRawWrite => exact rules.command rules.post h step
  case postItemRead => exact rules.command rules.post h step
  case takeCompletion => exact rules.command rules.takeCompletion h step
  case popEvent => exact rules.command (quiet apart_takePopEvent) h step
  case override => exact rules.command (quiet apart_takeOverride) h step
  case cancelOverride => exact rules.command (quiet apart_takeCancelOverride) h step
  case setRateDeferred => exact rules.command (quiet apart_takeSetRate) h step
  case setRateImmediate => exact rules.command (quiet apart_takeSetRate) h step
  case channelEnableOn => exact rules.command rules.enable h step
  case channelEnableOff => exact rules.command rules.enable h step
  case channelAbort => exact rules.command rules.abort h step
  case channelRestart hi level => exact rules.command (rules.restart level) h step
  case softReset => exact rules.command rules.softReset h step
  case unknownCommand hi code =>
    have owner := commandOwner_of_gt (of_decide_eq_true formed)
    exact rules.command (d := commandOwner code) (by rw [owner]; exact fun _ => id) h step
  case writeInterruptCauses v =>
    exact rules.quiet (f := fun s => { s with ev := s.ev.clearCauses v })
      (fun _ => apart_of_same rfl rfl rfl rfl rfl rfl) h step
  case writeInterruptEnables v =>
    exact rules.quiet (f := fun s => { s with ev := s.ev.setEnables v })
      (fun _ => apart_of_same rfl rfl rfl rfl rfl rfl) h step
  case writeEventThreshold v => exact rules.checkedWrite (quiet' (apart_takeThreshold v)) h step
  case writeHoldoff v => exact rules.checkedWrite (quiet' (d := takeHoldoff v) fun _ => apart_of_same rfl rfl rfl rfl rfl rfl) h step
  case writeMissLimit v => exact rules.checkedWrite (quiet' (apart_takeMissLimit v)) h step
  case writeProbeAttemptLimit v => exact rules.checkedWrite (quiet' (apart_takeAttemptLimit v)) h step
  case writeProbeRetryInterval v => exact rules.checkedWrite (quiet' (apart_takeRetryInterval v)) h step
  case writeLostCheckInterval v => exact rules.checkedWrite (quiet' (apart_takeLostInterval v)) h step
  case writeStagingIndex v =>
    exact rules.quiet (f := fun s => { s with ps := s.ps.writeIndex v })
      (fun _ => apart_of_same rfl rfl rfl rfl rfl (by unfold ProfileStore.writeIndex; dsimp only; split <;> rfl))
      h step
  case writeStagingPart n v =>
    exact rules.quiet (f := fun s => { s with ps := s.ps.writePart n v })
      (fun _ => apart_of_same rfl rfl rfl rfl rfl rfl) h step
  case writeAttentionLow line v =>
    exact rules.quiet (f := fun s => { s with att := s.att.writeLow v })
      (fun _ => apart_of_same rfl rfl rfl rfl rfl rfl) h step
  case writeAttentionHigh line v =>
    exact rules.quiet (f := fun s => { s with att := s.att.writeHigh line v })
      (fun _ => apart_of_same rfl rfl rfl rfl rfl rfl) h step
  case writeDivider ch v => exact rules.checkedWrite (rules.divider ch v) h step
  case writePassInterval ch v => exact rules.checkedWrite (rules.passInterval ch v) h step
  case writeHostWeight ch v => exact rules.checkedWrite (rules.hostWeight ch v) h step
  case writeChannelStatus ch v =>
    exact event_keeps (f := fun s => s.takeChannelStatus ch v) (rules.channelStatus ch v) h step
  case writeIndicatorIndex v => exact rules.checkedWrite (quiet' (apart_takeIndicatorIndex v)) h step
  case writeIndicatorRecord n v => exact rules.checkedWrite (quiet' (apart_takeIndicatorRecord n v)) h step
  case writeChainLength v => exact rules.checkedWrite (quiet' (apart_takeChainLength v)) h step
  case writeFlashWidth v => exact rules.checkedWrite (quiet' (apart_takeFlashWidth v)) h step
  case registerWrite a v =>
    refine rules.quiet (f := fun s => s.writeWord a v) (fun s => ?_) h step
    rw [writeWord_of_plain formed]
    split
    · exact apart_of_same rfl rfl rfl rfl rfl rfl
    · exact .refl s
  case resetAssert =>
    cases step
    exact rules.powerOn ..
  case resetRelease =>
    cases step
    exact rules.powerOn ..
  case timebaseTick atn =>
    exact event_keeps (f := fun s => s.tick atn) (rules.tick atn) h step
  case indicatorRefresh => exact rules.quiet apart_refresh h step
  case probeRetryExpiry p =>
    exact event_keeps (f := fun s => s.probeRetryExpiry p) (rules.probeRetryExpiry p) h step
  case lostCheckExpiry p =>
    exact event_keeps (f := fun s => s.lostCheckExpiry p) (rules.lostCheckExpiry p) h step
  case passIntervalExpiry ch =>
    exact event_keeps (f := fun s => s.passIntervalExpiry ch) (rules.passIntervalExpiry ch) h step
  case holdoffExpiry =>
    exact rules.quiet (f := fun s => { s with ev := s.ev.expire })
      (fun _ => apart_of_same rfl rfl rfl rfl rfl rfl) h step
  case ratePhaseExpiry n =>
    exact rules.quiet (f := fun s => { s with ie := s.ie.modSlot n RateSlot.expire })
      (fun _ => apart_of_same rfl rfl rfl rfl rfl rfl) h step
  case flashPhaseExpiry p =>
    exact rules.quiet (f := fun s => { s with ie := s.ie.modFlash p fun m => m.expire s.ie.flashWidth })
      (fun _ => apart_of_same rfl rfl rfl rfl rfl rfl) h step
  case overrideExpiry n =>
    exact rules.quiet (f := fun s => { s with ie := s.ie.modRecord n IndicatorRec.overrideExpire })
      (fun _ => apart_of_same rfl rfl rfl rfl rfl rfl) h step
  case idleLineCheck ch level =>
    exact event_keeps (f := fun s => s.takeIdleLineCheck ch level) (rules.idleLineCheck ch level) h step
  case frameEnd ch turnaround data =>
    exact event_keeps (f := fun s => s.takeFrameEnd ch turnaround data) (rules.frameEnd ch turnaround data) h step

/-- A predicate with these rules is kept by every step. -/
theorem Rules.step {s t : State} (taken : step s = .next t) (h : P s) : P t := by
  obtain rfl | ⟨i, rest, row⟩ := step_cases taken
  · exact h
  · have begun : P { s with pending := rest } := rules.apart (s := s) (apart_of_same rfl rfl rfl rfl rfl rfl) h
    obtain rfl | ⟨i', formed, row'⟩ := exec_formed row
    · exact begun
    · exact rules.row formed row' begun
end

end Sys2Proof.Laws
end

section
/-! PROOFS. The credit of host work (R123, R126 to R128): every claim that is no POST, TAKE_COMPLETION or reset keeps the count of
transactions that are queued, in flight or completed (`Credited`). -/
namespace Sys2Proof.Laws

open Sys2Proof.Machine Sys2Proof.Safety

/-- R126: the transactions of a channel. -/
def share (c : Channel) : Nat := c.queuedCount + c.inFlightCount

/-- R126: the transactions queued, in flight and completed but not taken. -/
def load (s : State) : Nat := share s.ch0 + share s.ch1 + s.ht.completions.length

theorem load_eq (s : State) (ch : Chan) :
    load s = share (s.chan ch) + share (s.chan (other ch)) + s.ht.completions.length := by
  cases ch
  · rfl
  · simp only [load, State.chan, other]
    omega

/-- `t` has the transactions, the outstanding count and the laws of the host queues of `s`. -/
structure Credited (s t : State) : Prop where
  load : load t = load s
  outstanding : t.ht.outstanding = s.ht.outstanding
  queues : ∀ ch, HostQueueLaw (s.chan ch) ch → HostQueueLaw (t.chan ch) ch

theorem Credited.refl (s : State) : Credited s s := ⟨rfl, rfl, fun _ => id⟩

theorem Credited.trans {s t u : State} (a : Credited s t) (b : Credited t u) : Credited s u :=
  ⟨b.load.trans a.load, b.outstanding.trans a.outstanding, fun ch => b.queues ch ∘ a.queues ch⟩

theorem creditLaw_iff (s : State) :
    CreditLaw s ↔ s.ht.outstanding = load s ∧ s.ht.outstanding ≤ 16 ∧ ∀ ch, HostQueueLaw (s.chan ch) ch := by
  have sum : load s = s.ch0.queuedCount + s.ch1.queuedCount + s.ch0.inFlightCount + s.ch1.inFlightCount
      + s.ht.completions.length := by
    simp only [load, share]
    omega
  constructor
  · intro h
    refine ⟨by rw [sum]; exact h.sum, h.limit, fun ch => ?_⟩
    cases ch
    · exact h.queue0
    · exact h.queue1
  · rintro ⟨total, limit, queues⟩
    exact ⟨by rw [← sum]; exact total, limit, queues .ch0, queues .ch1⟩

theorem Credited.law {s t : State} (h : Credited s t) (law : CreditLaw s) : CreditLaw t := by
  obtain ⟨total, limit, queues⟩ := (creditLaw_iff s).1 law
  rw [creditLaw_iff, h.outstanding, h.load]
  exact ⟨total, limit, fun ch => h.queues ch (queues ch)⟩

/-! ### One channel -/

/-- R123, R127, R128: the law reads the host queue and whether its chain is open. -/
theorem hostQueueLaw_of_same {c d : Channel} {ch : Chan} (h : HostQueueLaw c ch) (queue : d.hostQueue = c.hostQueue)
    (chain : d.chainOpen = c.chainOpen) : HostQueueLaw d ch := by
  have tail : d.tailMembers = c.tailMembers := by simp only [Channel.tailMembers, queue]
  exact ⟨by rw [queue]; exact h.capacity, by rw [queue]; exact h.members, by rw [queue]; exact h.channel, by
    rw [chain, tail]; exact h.openTail⟩

/-- A channel with the host work of another. -/
structure SameWork (c d : Channel) : Prop where
  queue : d.hostQueue = c.hostQueue
  chain : d.chainOpen = c.chainOpen
  inFlight : d.inFlightCount = c.inFlightCount

theorem SameWork.share {c d : Channel} (h : SameWork c d) : share d = share c := by
  simp only [Laws.share, Channel.queuedCount, h.queue, h.inFlight]

theorem SameBus.work {c d : Channel} (h : SameBus c d) : SameWork c d :=
  ⟨by rw [h.rest], by rw [h.rest], h.inFlight⟩

/-- Both channels with the host work they had, and the host table as it was. -/
theorem credited_of_same {s t : State} (ht : t.ht = s.ht) (ch0 : SameWork s.ch0 t.ch0) (ch1 : SameWork s.ch1 t.ch1) :
    Credited s t where
  load := by simp only [Laws.load, ht, ch0.share, ch1.share]
  outstanding := by rw [ht]
  queues := by
    rintro (_ | _) h
    · exact hostQueueLaw_of_same h ch0.queue ch0.chain
    · exact hostQueueLaw_of_same h ch1.queue ch1.chain

theorem Recorded.credited {s t : State} (h : Recorded s t) : Credited s t :=
  credited_of_same h.ht h.ch0.work h.ch1.work

theorem Apart.credited {s t : State} (h : Apart s t) : Credited s t :=
  credited_of_same h.ht (by rw [h.ch0]; exact ⟨rfl, rfl, rfl⟩) (by rw [h.ch1]; exact ⟨rfl, rfl, rfl⟩)

theorem credited_cu (s : State) (c : CommandUnit) : Credited s { s with cu := c } :=
  credited_of_same rfl ⟨rfl, rfl, rfl⟩ ⟨rfl, rfl, rfl⟩

theorem credited_ev (s : State) (e : EventBlock) : Credited s { s with ev := e } :=
  credited_of_same rfl ⟨rfl, rfl, rfl⟩ ⟨rfl, rfl, rfl⟩

/-- A channel changed with its host work kept. -/
theorem credited_modChan (s : State) (ch : Chan) {f : Channel → Channel} (same : ∀ c, SameWork c (f c)) :
    Credited s (s.modChan ch f) := by
  cases ch
  · exact credited_of_same rfl (same _) ⟨rfl, rfl, rfl⟩
  · exact credited_of_same rfl ⟨rfl, rfl, rfl⟩ (same _)

theorem credited_modSched (s : State) (ch : Chan) (f : Scheduler → Scheduler) : Credited s (s.modSched ch f) :=
  credited_modChan s ch fun _ => ⟨rfl, rfl, rfl⟩

theorem load_modChan (s : State) (ch : Chan) (f : Channel → Channel) :
    load (s.modChan ch f) + share (s.chan ch) = load s + share (f (s.chan ch)) := by
  have others := State.chan_modChan_of_ne s ch f (other ch) (by cases ch <;> decide)
  rw [load_eq _ ch, load_eq s ch, others, State.chan_modChan_self, State.modChan_ht]
  omega

/-! ### Units -/

theorem load_endHost (s : State) (ch : Chan) (l : List Completion) :
    load (s.endHost ch l) + (s.chan ch).inFlightCount = load s + l.length := by
  have free : ∀ c : Channel, share { c with held := none } = c.queuedCount := fun _ => rfl
  cases ch <;>
    · simp only [load, State.endHost, State.modChan, State.setChan, State.chan, free, List.length_append]
      simp only [share]
      omega

theorem load_frameHanded (s : State) (ch : Chan) (x : HeldUnit) (f : Frame) (mayOmit : Bool) :
    load (s.modChan ch fun c => frameHanded c x f mayOmit) + (s.chan ch).inFlightCount = load s + unitLoad x := by
  have handed : ∀ c : Channel, share (frameHanded c x f mayOmit) = c.queuedCount + unitLoad x := by
    intro c
    rw [share, inFlightCount_eq]
    rfl
  have changed := load_modChan s ch fun c => frameHanded c x f mayOmit
  rw [handed, share] at changed
  omega

/-- A channel changed with its host queue kept. -/
theorem hostQueueLaw_modChan {s : State} {ch : Chan} {f : Channel → Channel}
    (kept : ∀ c, (f c).hostQueue = c.hostQueue ∧ (f c).chainOpen = c.chainOpen) {ch' : Chan}
    (law : HostQueueLaw (s.chan ch') ch') : HostQueueLaw ((s.modChan ch f).chan ch') ch' := by
  by_cases here : ch' = ch
  · subst here
    rw [State.chan_modChan_self]
    exact hostQueueLaw_of_same law (kept _).1 (kept _).2
  · rwa [State.chan_modChan_of_ne _ _ _ _ here]

/-- The transactions in flight on a channel become `n` others, by completion records or a unit that hands a frame over. -/
theorem UnitMoves.load {s t : State} {ch : Chan} {n : Nat} (h : UnitMoves s t ch n) :
    load t + (s.chan ch).inFlightCount = load s + n ∧ t.ht.outstanding = s.ht.outstanding ∧
    ∀ ch', HostQueueLaw (s.chan ch') ch' → HostQueueLaw (t.chan ch') ch' := by
  obtain ⟨u, recorded, moves⟩ := h
  have credited := recorded.credited
  rw [← credited.load, ← (recorded.chan ch).inFlight]
  obtain ⟨l, rfl, rfl⟩ | ⟨x, mayOmit, rfl, rfl⟩ := moves
  · refine ⟨load_endHost .., ?_, fun ch' law => ?_⟩
    · unfold State.endHost
      rw [State.modChan_ht]
      exact credited.outstanding
    · refine hostQueueLaw_modChan (f := fun c => { c with held := none }) (fun _ => ⟨rfl, rfl⟩) ?_
      rw [State.chan_with_ht]
      exact credited.queues ch' law
  · refine ⟨load_frameHanded .., ?_, fun ch' law => ?_⟩
    · rw [State.modChan_ht]
      exact credited.outstanding
    · exact hostQueueLaw_modChan (f := fun c => frameHanded c x (unitFrame x) mayOmit) (fun _ => ⟨rfl, rfl⟩)
        (credited.queues ch' law)

/-- A unit that goes on or ends keeps the credit when it is the one in flight. -/
theorem UnitMoves.credited {s t : State} {ch : Chan} {n : Nat} (h : UnitMoves s t ch n)
    (inFlight : (s.chan ch).inFlightCount = n) : Credited s t := by
  obtain ⟨total, outstanding, queues⟩ := h.load
  exact ⟨by omega, outstanding, queues⟩

theorem UnitEnds.moves {s t : State} {ch : Chan} {n : Nat} (h : UnitEnds s t ch n) : UnitMoves s t ch n := by
  obtain ⟨u, l, recorded, length, ends⟩ := h
  exact ⟨u, recorded, .inl ⟨l, length, ends⟩⟩

theorem inFlight_of_held {c : Channel} {u : HeldUnit} (held : c.held = some u) : c.inFlightCount = unitLoad u := by
  simp [inFlightCount_eq, held]

theorem credited_unitFrameEnd (s : State) (ch : Chan) (res : FrameResult) : Credited s (s.unitFrameEnd ch res) := by
  cases held : (s.chan ch).held with
  | none =>
    simp only [State.unitFrameEnd, held]
    exact .refl s
  | some u => exact (unitMoves_unitFrameEnd held res).credited (inFlight_of_held held)

theorem credited_cutUnit (s : State) (ch : Chan) (o : JobOutcome) (res : HostResult) :
    Credited s (s.cutUnit ch o res) := by
  cases held : (s.chan ch).held with
  | none =>
    simp only [State.cutUnit, held]
    exact .refl s
  | some u => exact (unitEnds_cutUnit held o res).moves.credited (inFlight_of_held held)

theorem credited_abortFrameEnd (s : State) (ch : Chan) (res : FrameResult) : Credited s (s.abortFrameEnd ch res) := by
  cases held : (s.chan ch).held with
  | none =>
    simp only [State.abortFrameEnd, held]
    exact .refl s
  | some u => exact (unitEnds_abortFrameEnd held res).moves.credited (inFlight_of_held held)

/-- R118 (a): the units queued complete. -/
theorem credited_abortDrainEnd (s : State) (ch : Chan) : Credited s (s.abortDrainEnd ch) := by
  have records : (s.chan ch).queuedAborted.length = (s.chan ch).queuedCount := by
    simp only [Channel.queuedAborted, Channel.queuedCount, List.length_map, List.length_flatten]
  refine ⟨?_, ?_, fun ch' law => ?_⟩
  · have empty : ∀ c : Channel, share { c with
        hostQueue := [], chainOpen := false, sched := c.sched.abortEnd, drain := .none, state := c.state.afterAbort } =
        c.inFlightCount := by
      intro c
      simp only [share, Channel.queuedCount, List.map_nil, List.sum_nil, Nat.zero_add, Channel.inFlightCount]
    cases ch <;>
      · simp only [load, State.abortDrainEnd, State.modChan, State.setChan, State.chan, empty, List.length_append]
          at records ⊢
        simp only [share]
        omega
  · unfold State.abortDrainEnd
    rw [State.modChan_ht]
  · unfold State.abortDrainEnd
    by_cases here : ch' = ch
    · subst here
      rw [State.chan_modChan_self]
      exact ⟨Nat.zero_le _, nofun, nofun, nofun⟩
    · rw [State.chan_modChan_of_ne _ _ _ _ here, State.chan_with_ht]
      exact law

/-! ### Decisions -/

/-- R128: the queue behind its head. -/
theorem hostQueueLaw_tail {c : Channel} {ch : Chan} {u : List HostTxn} {rest : List (List HostTxn)}
    (h : HostQueueLaw c ch) (queue : c.hostQueue = u :: rest) (tail : c.chainOpen = true → rest ≠ []) :
    HostQueueLaw (hostGranted c rest) ch := by
  have capacity := h.capacity
  have members := h.members
  have channel := h.channel
  have openTail := h.openTail
  rw [queue] at capacity members channel
  refine ⟨?_, fun v hv => members v (List.mem_cons_of_mem u hv), fun v hv => channel v (List.mem_cons_of_mem u hv),
    fun opened => ?_⟩
  · rw [List.length_cons] at capacity
    exact Nat.le_of_succ_le capacity
  · have same : (hostGranted c rest).tailMembers = c.tailMembers := by
      cases rest with
      | nil => exact absurd rfl (tail opened)
      | cons v rest => simp [Channel.tailMembers, hostGranted, queue, List.getLast?_cons_cons]
    rw [same]
    exact openTail opened

/-- R84: a grant to the device side on a channel without a unit. -/
theorem credited_grantDevice {s : State} {ch : Chan} (idle : (s.chan ch).inFlightCount = 0) (x : Source) :
    Credited s (s.grantDevice ch x) := by
  unfold State.grantDevice
  dsimp only
  split
  · next j _ =>
    let granted := s.modChan ch fun c => { c with sched := c.sched.takeSource x.1, hostTurn := c.hostWeight }
    have same : ∀ c : Channel, SameWork c { c with sched := c.sched.takeSource x.1, hostTurn := c.hostWeight } :=
      fun _ => ⟨rfl, rfl, rfl⟩
    have free : (granted.chan ch).inFlightCount = 0 := by
      rw [State.chan_modChan_self]
      exact idle
    have run : Credited s (granted.modChan ch fun c => c.runJob j) :=
      (credited_modChan s ch same).trans ((unitMoves_runJob granted ch j).credited free)
    cases ch <;> exact run
  · exact credited_modChan s ch (f := fun c => { c with sched := c.sched.takeSource x.1, hostTurn := c.hostWeight })
      fun _ => ⟨rfl, rfl, rfl⟩

/-- R129: a grant to the host side on a channel without a unit. -/
theorem credited_grantHost {s : State} {ch : Chan} {u : List HostTxn} {rest : List (List HostTxn)}
    (idle : (s.chan ch).inFlightCount = 0) (queue : (s.chan ch).hostQueue = u :: rest)
    (tail : (s.chan ch).chainOpen = true → rest ≠ []) :
    Credited s ((s.modChan ch fun c => hostGranted c rest).hostProceed ch [] u) := by
  obtain ⟨total, outstanding, queues⟩ :=
    (unitMoves_hostProceed (s.modChan ch fun c => hostGranted c rest) ch [] u).load
  have granted := load_modChan s ch fun c => hostGranted c rest
  have before : share (s.chan ch) = u.length + (rest.map List.length).sum := by
    simp [share, idle, Channel.queuedCount, queue]
  have flying : (hostGranted (s.chan ch) rest).inFlightCount = 0 := idle
  have after : share (hostGranted (s.chan ch) rest) = (rest.map List.length).sum := by
    rw [share, flying]
    rfl
  rw [before, after] at granted
  rw [State.chan_modChan_self, flying, List.length_nil] at total
  refine ⟨by omega, outstanding.trans (by rw [State.modChan_ht]), fun ch' law => queues ch' ?_⟩
  by_cases here : ch' = ch
  · subst here
    rw [State.chan_modChan_self]
    exact hostQueueLaw_tail law queue tail
  · rwa [State.chan_modChan_of_ne _ _ _ _ here]

theorem credited_decideOnce {s : State} {ch : Chan} (may : s.mayDecide ch = true) : Credited s (s.decideOnce ch).1 := by
  obtain ⟨-, free, -⟩ := (mayDecide_iff s ch).1 may
  have consultation : Credited s (consulted s ch) := credited_modSched ..
  have idle : ((consulted s ch).chan ch).inFlightCount = 0 := by
    rw [chan_consulted]
    simp [inFlightCount_eq, free]
  obtain ⟨-, -, same⟩ | ⟨x, -, device⟩ | ⟨u, rest, queue, tail, host⟩ := decideOnce_cases s ch
  · rw [same]
    exact consultation
  · rw [device]
    exact consultation.trans (credited_grantDevice idle x)
  · rw [host]
    exact consultation.trans
      (credited_grantHost idle (by rw [chan_consulted]; exact queue) (by rw [chan_consulted]; exact tail))

theorem credited_notice (s : State) (ch : Chan) : Credited s (s.notice ch) :=
  notice_keeps (P := fun t => Credited s t) (fun _ h may => h.trans (credited_decideOnce may)) (.refl s)

theorem credited_noticeOf (s : State) (b : Option Binding) : Credited s (s.noticeOf b) := by
  cases b with
  | none => exact .refl s
  | some b => exact credited_notice ..

end Sys2Proof.Laws
end

section
/-! PROOFS. Every step keeps the credit of host work (R126 to R128): POST adds one transaction, TAKE_COMPLETION hands one over, a
reset drops all, and every other claim moves them (`Credited`). -/
namespace Sys2Proof.Laws

open Sys2Proof.Machine Sys2Proof.Safety

/-! ### Resets -/

theorem hostQueueLaw_empty {c : Channel} {ch : Chan} (queue : c.hostQueue = []) (chain : c.chainOpen = false) :
    HostQueueLaw c ch :=
  ⟨by simp [queue], by simp [queue], by simp [queue], by simp [chain]⟩

/-- R126, R138: a part without host work. -/
theorem creditLaw_of_empty {s : State} (ht : s.ht = .reset) (queues : ∀ ch, (s.chan ch).hostQueue = [])
    (chains : ∀ ch, (s.chan ch).chainOpen = false) (held : ∀ ch, (s.chan ch).held = none) : CreditLaw s := by
  have none_there : ∀ ch, share (s.chan ch) = 0 := fun ch => by
    simp [share, Channel.queuedCount, inFlightCount_eq, queues ch, held ch]
  refine (creditLaw_iff s).2 ⟨?_, ?_, fun ch => hostQueueLaw_empty (queues ch) (chains ch)⟩
  · rw [load_eq s .ch0, none_there, none_there, ht]
    rfl
  · rw [ht]
    exact Nat.zero_le _

theorem creditLaw_dynamicReset (s : State) : CreditLaw s.dynamicReset :=
  creditLaw_of_empty rfl (by rintro (_ | _) <;> rfl) (by rintro (_ | _) <;> rfl) (by rintro (_ | _) <;> rfl)

theorem creditLaw_powerOn (s : State) (low : Bool) : CreditLaw (s.powerOn low) :=
  creditLaw_of_empty rfl (by rintro (_ | _) <;> rfl) (by rintro (_ | _) <;> rfl) (by rintro (_ | _) <;> rfl)

/-! ### Ends of drains and of frames -/

theorem creditLaw_drainReport {s : State} (h : CreditLaw s) (ch : Chan) : CreditLaw (s.drainReport ch) := by
  unfold State.drainReport
  split
  · exact h
  · next t _ =>
    dsimp only
    split
    · exact (credited_cu s _).law h
    · split
      · exact ((credited_notice _ .ch0).trans (credited_notice _ .ch1)).law
          ((credited_cu s.dynamicReset (s.dynamicReset.cu.completeTimed (t.ended ch).code)).law
            (creditLaw_dynamicReset s))
      · exact (credited_cu s _).law h

theorem creditLaw_disableDrainEnd {s : State} (h : CreditLaw s) (ch : Chan) : CreditLaw (s.disableDrainEnd ch) :=
  creditLaw_drainReport ((credited_modChan s ch (f := fun c => { c with state := .off, drain := .none, sched := c.sched.disable })
    fun _ => ⟨rfl, rfl, rfl⟩).law h) ch

theorem creditLaw_afterUnit {s : State} (h : CreditLaw s) (ch : Chan) : CreditLaw (s.afterUnit ch) := by
  unfold State.afterUnit
  split
  · exact h
  · split
    · exact creditLaw_disableDrainEnd h ch
    · exact (credited_notice s ch).law h

theorem creditLaw_takeFrameEnd {s : State} (h : CreditLaw s) (ch : Chan) (turnaround : Bool) (data : Word) :
    CreditLaw (s.takeFrameEnd ch turnaround data) := by
  unfold State.takeFrameEnd
  split
  · next f _ =>
    split
    · have gone : Credited s (s.modChan ch fun c => c.frameDone f (f.frame.result turnaround data)) :=
        credited_modChan s ch fun _ => ⟨rfl, rfl, rfl⟩
      unfold State.frameEnd
      dsimp only
      split
      · exact (credited_notice _ ch).law (creditLaw_drainReport
          (((gone.trans (credited_abortFrameEnd _ ch _)).trans (credited_abortDrainEnd _ ch)).law h) ch)
      · exact creditLaw_afterUnit ((gone.trans (credited_unitFrameEnd _ ch _)).law h) ch
    · exact h
  · exact h

/-- R110: a channel that its arbiter has lost to a fault, but for the end of a disable drain. -/
def lineCut (s : State) (ch : Chan) : State :=
  s.modChan ch fun c => { c with frame := none, state := if c.drain = .disable then c.state else .halted }

/-- R110: the part after a failed check, but for the end of a disable drain. -/
def lineFaulted (s : State) (ch : Chan) : State :=
  let u := ((lineCut s ch).cutUnit ch .busFault .busFault).post (.channelFault ch)
  { u with ev := { u.ev with chf := true } }

theorem lineFault_eq (s : State) (ch : Chan) :
    s.lineFault ch =
      if ((lineFaulted s ch).chan ch).drain = .disable then (lineFaulted s ch).disableDrainEnd ch
      else lineFaulted s ch := rfl

theorem credited_lineFaulted (s : State) (ch : Chan) : Credited s (lineFaulted s ch) := by
  have cut : Credited s (lineCut s ch) := credited_modChan s ch fun _ => ⟨rfl, rfl, rfl⟩
  exact ((cut.trans (credited_cutUnit _ ch .busFault .busFault)).trans (recorded_post _ (.channelFault ch)).credited).trans
    (credited_ev _ _)

theorem creditLaw_lineFault {s : State} (h : CreditLaw s) (ch : Chan) : CreditLaw (s.lineFault ch) := by
  have faulted := (credited_lineFaulted s ch).law h
  rw [lineFault_eq]
  split
  · exact creditLaw_disableDrainEnd faulted ch
  · exact faulted

theorem creditLaw_takeIdleLineCheck {s : State} (h : CreditLaw s) (ch : Chan) (level : Bool) :
    CreditLaw (s.takeIdleLineCheck ch level) := by
  unfold State.takeIdleLineCheck
  split
  · exact h
  · next f _ =>
    split
    · exact h
    · have noted : Credited s (s.modChan ch fun c => { c with mdioHigh := level }) :=
        credited_modChan s ch (f := fun c => { c with mdioHigh := level }) fun _ => ⟨rfl, rfl, rfl⟩
      dsimp only
      split
      · exact creditLaw_lineFault (noted.law h) ch
      · split
        · have withdrawn := noted.trans (credited_modChan _ ch
            (f := fun c => { c with frame := none, state := if c.state = .busy then .idle else c.state })
            fun _ => ⟨rfl, rfl, rfl⟩)
          exact creditLaw_afterUnit ((withdrawn.trans (credited_cutUnit _ ch .aborted .aborted)).law h) ch
        · exact (noted.trans (credited_modChan _ ch (f := fun c => { c with frame := some { f with rate := some c.divider } })
            fun _ => ⟨rfl, rfl, rfl⟩)).law h

theorem credited_beginAbort (s : State) (ch : Chan) : Credited s (s.beginAbort ch).1 := by
  unfold State.beginAbort
  split
  · split
    · exact credited_modChan s ch (f := fun c => { c with state := .draining, drain := .abort }) fun _ => ⟨rfl, rfl, rfl⟩
    · exact ((credited_modChan s ch (f := fun c => { c with frame := none }) fun _ => ⟨rfl, rfl, rfl⟩).trans
        (credited_cutUnit ..)).trans (credited_abortDrainEnd ..)
  · exact (credited_cutUnit ..).trans (credited_abortDrainEnd ..)

theorem creditLaw_takeSoftReset {s : State} (h : CreditLaw s) : CreditLaw (takeSoftReset s).1 := by
  have begun : Credited s ((((s.startTimed 20#8 true true).beginAbort .ch0).1).beginAbort .ch1).1 :=
    ((credited_cu s _).trans (credited_beginAbort _ .ch0)).trans (credited_beginAbort _ .ch1)
  unfold takeSoftReset
  dsimp only
  split
  · exact ((credited_notice _ .ch0).trans (credited_notice _ .ch1)).law
      ((credited_cu _ _).law (creditLaw_dynamicReset _))
  · exact (begun.trans (credited_cu _ _)).law h

/-! ### POST and TAKE_COMPLETION -/

/-- R127: the units of a host queue with a transaction appended to its last. -/
theorem appendToLast_concat (l : List (List HostTxn)) (u : List HostTxn) (t : HostTxn) :
    appendToLast (l ++ [u]) t = l ++ [u ++ [t]] := by
  induction l with
  | nil => rfl
  | cons v l ih =>
    cases l with
    | nil => rfl
    | cons w l =>
      have unfolded : appendToLast (v :: (w :: l ++ [u])) t = v :: appendToLast (w :: l ++ [u]) t := rfl
      rw [List.cons_append, unfolded, ih]
      rfl

/-- R127: an accepted transaction becomes a unit at the tail, or the next member of the open chain there. -/
theorem place_cases {c : Channel} {ch : Chan} (h : HostQueueLaw c ch) (t : HostTxn) (more : Bool) :
    (c.chainOpen = false ∧ (c.place t more).hostQueue = c.hostQueue ++ [[t]]) ∨
    ∃ l u, c.chainOpen = true ∧ c.hostQueue = l ++ [u] ∧ c.tailMembers = u.length ∧
      (c.place t more).hostQueue = l ++ [u ++ [t]] := by
  cases chain : c.chainOpen
  · exact .inl ⟨rfl, by simp [Channel.place, chain]⟩
  · have some_unit : c.hostQueue ≠ [] := by
      intro empty
      have members := (h.openTail chain).1
      simp [Channel.tailMembers, empty] at members
    obtain ⟨l, u, queue⟩ := (List.eq_nil_or_concat c.hostQueue).resolve_left some_unit
    rw [List.concat_eq_append] at queue
    refine .inr ⟨l, u, rfl, queue, by simp [Channel.tailMembers, queue], ?_⟩
    simp [Channel.place, chain, queue, appendToLast_concat]

theorem queuedCount_place {c : Channel} {ch : Chan} (h : HostQueueLaw c ch) (t : HostTxn) (more : Bool) :
    (c.place t more).queuedCount = c.queuedCount + 1 := by
  obtain ⟨-, queue⟩ | ⟨l, u, -, before, -, queue⟩ := place_cases h t more
  · simp [Channel.queuedCount, queue]
  · simp [Channel.queuedCount, queue, before]
    omega

/-- R125 (d), (e), R128: a transaction that is not refused keeps the law of its host queue. -/
theorem hostQueueLaw_place {c : Channel} {t : HostTxn} {more : Bool} (h : HostQueueLaw c t.channel)
    (short : c.chainOpen = true → more = true → c.tailMembers < 3) (room : c.chainOpen = false → c.hostQueue.length < 8) :
    HostQueueLaw (c.place t more) t.channel := by
  have chain : (c.place t more).chainOpen = more := rfl
  obtain ⟨closed, queue⟩ | ⟨l, u, opened, before, tail, queue⟩ := place_cases h t more
  · have capacity := room closed
    refine ⟨?_, ?_, ?_, ?_⟩
    · rw [queue, List.length_append, List.length_singleton]
      omega
    · rw [queue]
      intro v hv
      obtain old | rfl := by simpa using hv
      · exact h.members v old
      · exact ⟨Nat.le_refl 1, Nat.le_add_left 1 3⟩
    · rw [queue]
      intro v hv
      obtain old | rfl := by simpa using hv
      · exact h.channel v old
      · simp
    · intro _
      simp [Channel.tailMembers, queue]
  · have members := h.members
    have channel := h.channel
    have capacity := h.capacity
    obtain ⟨low, high⟩ := h.openTail opened
    rw [before] at members channel capacity
    rw [tail] at low high
    refine ⟨?_, ?_, ?_, ?_⟩
    · rw [queue]
      simpa using capacity
    · rw [queue]
      intro v hv
      obtain old | rfl := by simpa using hv
      · exact members v (by simp [old])
      · rw [List.length_append, List.length_singleton]
        omega
    · rw [queue]
      intro v hv w hw
      obtain old | rfl := by simpa using hv
      · exact channel v (by simp [old]) w hw
      · obtain was | rfl := by simpa using hw
        · exact channel u (by simp) w was
        · rfl
    · intro continued
      have below := short opened (chain ▸ continued)
      rw [tail] at below
      simp [Channel.tailMembers, queue]
      omega

theorem creditLaw_offer {s : State} (h : CreditLaw s) (t : HostTxn) (more : Bool) : CreditLaw (s.offer t more).1 := by
  unfold State.offer
  dsimp only
  split
  · exact h
  · next short =>
    split
    · exact h
    · next room =>
      split
      · exact h
      · next credit =>
        obtain ⟨total, limit, queues⟩ := (creditLaw_iff s).1 h
        simp only [Config.hostQueueCapacity, Config.maxOutstanding, Bool.and_eq_true, decide_eq_true_eq, not_and,
          Bool.not_eq_true', not_le] at short room credit
        refine (credited_notice _ t.channel).law ((creditLaw_iff _).2 ⟨?_, ?_, fun ch => ?_⟩)
        · have changed := load_modChan s t.channel fun c => c.place t more
          have placed : share ((s.chan t.channel).place t more) = share (s.chan t.channel) + 1 := by
            have flying : ((s.chan t.channel).place t more).inFlightCount = (s.chan t.channel).inFlightCount := rfl
            rw [share, flying, queuedCount_place (queues t.channel), share]
            omega
          rw [placed] at changed
          have same : ∀ n, load { s.modChan t.channel (fun c => c.place t more) with
              ht := { (s.modChan t.channel fun c => c.place t more).ht with outstanding := n } } =
              load (s.modChan t.channel fun c => c.place t more) := fun _ => rfl
          rw [same]
          simp only [State.modChan_ht]
          omega
        · simp only [State.modChan_ht]
          omega
        · rw [State.chan_with_ht]
          by_cases here : ch = t.channel
          · subst here
            rw [State.chan_modChan_self]
            exact hostQueueLaw_place (queues t.channel) (fun opened continued => short ⟨opened, continued⟩)
              fun closed => Nat.not_le.1 fun full => room closed (decide_eq_true full)
          · rw [State.chan_modChan_of_ne _ _ _ _ here]
            exact queues ch

theorem creditLaw_takePost {s : State} (h : CreditLaw s) : CreditLaw (takePost s).1 := by
  unfold takePost
  split
  · unfold State.postRawRead
    split
    · exact h
    · exact creditLaw_offer h ..
  · unfold State.postRawWrite
    split
    · exact h
    · exact creditLaw_offer h ..
  · unfold State.postItemRead
    split
    · split
      · exact h
      · split
        · exact h
        · exact creditLaw_offer h ..
    · exact h
  · exact h

/-- R134: a completion record handed over. -/
theorem creditLaw_takeTakeCompletion {s : State} (h : CreditLaw s) : CreditLaw (takeTakeCompletion s).1 := by
  unfold takeTakeCompletion
  split
  · exact h
  · next r rest records =>
    obtain ⟨total, limit, queues⟩ := (creditLaw_iff s).1 h
    refine (creditLaw_iff _).2 ⟨?_, ?_, fun ch => ?_⟩
    · simp only [load, records, List.length_cons] at total ⊢
      omega
    · simp only
      omega
    · simp only [State.chan_with_ht]
      exact queues ch

/-! ### The rows -/

/-- R58, R62: a due timer of a port, with the record work of its expiry. -/
theorem credited_probeRetryExpiry (s : State) (p : PortId) : Credited s (s.probeRetryExpiry p) := by
  unfold State.probeRetryExpiry
  split
  · exact (((recorded_modPort s p _).trans (recorded_markStale _ p)).trans
      (recorded_schedOf (queuesOnly_pushProbe p .probe) _ _)).credited.trans (credited_noticeOf ..)
  · exact .refl s

theorem credited_lostCheckExpiry (s : State) (p : PortId) : Credited s (s.lostCheckExpiry p) := by
  unfold State.lostCheckExpiry
  split
  · exact (((recorded_modPort s p _).trans (recorded_markStale _ p)).trans
      (recorded_schedOf (queuesOnly_pushProbe p .presence) _ _)).credited.trans (credited_noticeOf ..)
  · exact .refl s

theorem credited_reprobe (s : State) (p : PortId) (why : Reason) : Credited s (s.reprobe p why) :=
  (recorded_transition s p .probing (some why) fun r => { r with attemptCount := 0 }).credited.trans
    (credited_noticeOf ..)

theorem credited_noticeIfGrown (s before : State) (ch : Chan) : Credited s (s.noticeIfGrown before ch) := by
  unfold State.noticeIfGrown
  split
  · exact credited_notice ..
  · exact .refl s

theorem credited_tick (s : State) (atn : BitVec 4) : Credited s (s.tick atn) := by
  have timers : Credited s s.tickTimers := credited_of_same rfl ⟨rfl, rfl, rfl⟩ ⟨rfl, rfl, rfl⟩
  have stored : ∀ (u : State) (a : Attention), Credited u { u with att := a } := fun _ _ =>
    credited_of_same rfl ⟨rfl, rfl, rfl⟩ ⟨rfl, rfl, rfl⟩
  unfold State.tick State.sampleAttention
  dsimp only
  exact ((((timers.trans (credited_modSched _ .ch0 _)).trans (credited_modSched _ .ch1 _)).trans (stored _ _)).trans
    (credited_noticeIfGrown _ _ .ch0)).trans (credited_noticeIfGrown _ _ .ch1)

theorem creditLaw_takeBind {s : State} (h : CreditLaw s) : CreditLaw (takeBind s).1 := by
  unfold takeBind
  split
  · exact h
  · next p b _ =>
    split
    · exact h
    · split
      · exact h
      · split
        · exact h
        · exact ((recorded_transition s p .probing (some .host) fun r => r.bind b).credited.trans
            (credited_notice ..)).law h

/-- What the rows do to the credit of host work. -/
theorem rules_creditLaw : Rules CreditLaw where
  apart := fun h => h.credited.law
  bind := fun _ => creditLaw_takeBind
  unbind := fun {s} _ h => by
    refine onNamedPort_keeps h fun p => ?_
    split
    · exact h
    · exact (recorded_transition s p _ _ PortRec.unbind).credited.law h
  suspend := fun {s} _ h => by
    refine onNamedPort_keeps h fun p => ?_
    split
    · exact h
    · exact (recorded_transition s p _ _ id).credited.law h
  resume := fun {s} _ h => by
    refine onNamedPort_keeps h fun p => ?_
    split
    · exact h
    · exact (credited_reprobe s p .resumed).law h
  retry := fun {s} _ h => by
    refine onNamedPort_keeps h fun p => ?_
    split
    · exact h
    · exact (credited_reprobe s p .retry).law h
  scanEntry := fun {s} _ h => by
    unfold takeSetScanEntry
    split
    · dsimp only
      exact (credited_modSched s _ _).law h
    · exact h
  scanLength := fun {s} _ h => by
    unfold takeSetScanLength
    split
    · exact h
    · split
      · dsimp only
        exact (credited_modSched s _ _).law h
      · exact h
  profileLoad := fun {s} _ h => by
    obtain same | ⟨n, f, -, loaded⟩ := takeProfileLoad_cases s
    · rwa [same]
    · rw [loaded]
      have same : Credited s { s with ps := { s.ps with profiles := s.ps.profiles.set n (some f) } } :=
        credited_of_same rfl ⟨rfl, rfl, rfl⟩ ⟨rfl, rfl, rfl⟩
      exact same.law h
  post := fun _ => creditLaw_takePost
  takeCompletion := fun _ => creditLaw_takeTakeCompletion
  enable := fun {s} _ h => by
    refine onNamedChannel_keeps h fun ch => ?_
    split
    · unfold State.enableOn
      split
      · exact ((credited_modChan s ch (f := Channel.turnOn) fun _ => ⟨rfl, rfl, rfl⟩).trans (credited_notice ..)).law h
      · exact h
    · have off := (credited_modChan s ch (f := Channel.turnOff) fun _ => ⟨rfl, rfl, rfl⟩).law h
      unfold State.enableOff
      dsimp only
      split
      · exact h
      · exact off
      · exact h
      · split
        · exact off
        · exact ((credited_modChan s ch (f := fun c => { c with enabled := false, state := .draining, drain := .disable })
            fun _ => ⟨rfl, rfl, rfl⟩).trans (credited_cu _ _)).law h
  abort := fun {s} _ h => by
    refine onNamedChannel_keeps h fun ch => ?_
    unfold State.abortChannel
    dsimp only
    split
    · exact ((credited_beginAbort s ch).trans (credited_notice ..)).law h
    · exact ((credited_beginAbort s ch).trans (credited_cu _ _)).law h
  restart := fun {s} level _ h => by
    refine onNamedChannel_keeps h fun ch => ?_
    have noted := credited_modChan s ch (f := fun c => { c with mdioHigh := level }) fun _ => ⟨rfl, rfl, rfl⟩
    unfold State.restartChannel
    split
    · exact h
    · dsimp only
      split
      · exact ((noted.trans (credited_modChan _ ch (f := fun c => { c with state := .idle, established := 0 })
          fun _ => ⟨rfl, rfl, rfl⟩)).trans (credited_notice ..)).law h
      · exact noted.law h
  softReset := fun _ => creditLaw_takeSoftReset
  divider := fun {s} ch v h => by
    unfold State.takeDivider
    split
    · exact (credited_modChan s ch (f := fun c => { c with divider := v.toNat }) fun _ => ⟨rfl, rfl, rfl⟩).law h
    · exact h
  passInterval := fun {s} ch v h => by
    unfold State.takePassInterval
    split
    · exact h
    · dsimp only
      exact (credited_modSched s ch _).law h
  hostWeight := fun {s} ch v h => by
    unfold State.takeHostWeight
    split
    · exact (credited_modChan s ch (f := fun c => { c with hostWeight := v.toNat, hostTurn := min c.hostTurn v.toNat })
        fun _ => ⟨rfl, rfl, rfl⟩).law h
    · exact h
  channelStatus := fun {s} ch v h => by
    unfold State.takeChannelStatus
    split
    · exact (credited_modSched s ch _).law h
    · exact h
  tick := fun {s} atn h => (credited_tick s atn).law h
  probeRetryExpiry := fun {s} p h => (credited_probeRetryExpiry s p).law h
  lostCheckExpiry := fun {s} p h => (credited_lostCheckExpiry s p).law h
  passIntervalExpiry := fun {s} ch h => by
    unfold State.passIntervalExpiry
    dsimp only
    split
    · split
      · exact (credited_modSched s ch _).law h
      · split
        · exact (credited_modSched s ch _).law h
        · exact ((credited_modSched s ch _).trans (credited_notice ..)).law h
    · exact h
  idleLineCheck := fun ch level h => creditLaw_takeIdleLineCheck h ch level
  frameEnd := fun ch turnaround data h => creditLaw_takeFrameEnd h ch turnaround data
  powerOn := creditLaw_powerOn

/-- Settles O55, along the rows (`rules_creditLaw`). -/
theorem everyStepKeepsTheCreditLaw : Obligations.EveryStepKeepsTheCreditLaw :=
  fun _ _ law taken => rules_creditLaw.step taken law

end Sys2Proof.Laws
end

section
/-! PROOFS. The laws of one channel (R72, R92, R94, R104, R105): what does not depend on its unit (`BaseLaw`), a channel between two
frames of a unit (`Between`), and how a frame handed over, a unit's end and the ends of drains lead from one to the other. -/
namespace Sys2Proof.Laws

open Sys2Proof.Machine Sys2Proof.Safety

/-! ### The laws of a channel, with and without its unit -/

/-- The laws of a channel that speak of neither its unit, its frame nor its drain. -/
structure BaseLaw (c : Channel) : Prop where
  weight : 1 ≤ c.hostWeight ∧ c.hostWeight ≤ 4
  turn : c.hostTurn ≤ c.hostWeight
  divider : 3 ≤ c.divider ∧ c.divider ≤ 63
  sched : SchedLaw c.sched
  stopped : c.sched.passTimer = .stopped ↔ c.state = .off
  offPass : c.state = .off → c.sched.pass = none

theorem baseLaw_of_law {c : Channel} (h : ChannelLaw c) : BaseLaw c :=
  ⟨h.weight, h.turn, h.divider, h.sched, h.stopped, h.offPass⟩

theorem channelLaw_of_base {c : Channel} (h : BaseLaw c) (frame : c.frame.map FlyingFrame.frame = c.held.map unitFrame)
    (state : stateFits c = true) : ChannelLaw c :=
  ⟨h.weight, h.turn, h.divider, frame, state, h.sched, h.stopped, h.offPass⟩

/-- What the law reads of a scheduler. -/
theorem schedLaw_of_same {c d : Scheduler} (h : SchedLaw c) (interval : d.passInterval = c.passInterval)
    (length : d.scanLength = c.scanLength) (pass : d.pass = c.pass) (timer : d.passTimer = c.passTimer)
    (pending : d.pendingExpiry = c.pendingExpiry) : SchedLaw d :=
  ⟨by rw [interval]; exact h.interval, by rw [length]; exact h.length, by rw [pass]; exact h.position, by
    rw [timer, pending]; exact h.expired, by rw [pending, pass]; exact h.pending⟩

/-- A channel changed in nothing that the base laws read. -/
theorem baseLaw_of_same {c d : Channel} (h : BaseLaw c) (weight : d.hostWeight = c.hostWeight)
    (turn : d.hostTurn = c.hostTurn) (divider : d.divider = c.divider) (sched : SchedLaw d.sched)
    (stopped : d.sched.passTimer = .stopped ↔ c.sched.passTimer = .stopped) (pass : d.sched.pass = c.sched.pass)
    (state : d.state = .off ↔ c.state = .off) : BaseLaw d :=
  ⟨by rw [weight]; exact h.weight, by rw [turn, weight]; exact h.turn, by rw [divider]; exact h.divider, sched,
    by rw [stopped, state]; exact h.stopped, by rw [state, pass]; exact h.offPass⟩

theorem SameBus.base {c d : Channel} (same : SameBus c d) (h : BaseLaw c) : BaseLaw d := by
  rw [same.rest]
  exact ⟨h.weight, h.turn, h.divider, schedLaw_of_same h.sched rfl rfl rfl rfl rfl, h.stopped, h.offPass⟩

/-- R94: the frame of a unit does not depend on its stale mark. -/
theorem unitFrame_fresh (u : HeldUnit) : unitFrame (fresh u) = unitFrame u := by
  cases u <;> rfl

theorem SameBus.unitFrame {c d : Channel} (same : SameBus c d) : d.held.map Safety.unitFrame = c.held.map Safety.unitFrame := by
  have frames := congrArg (Option.map Safety.unitFrame) same.held
  simpa only [Option.map_map, Function.comp_def, unitFrame_fresh] using frames

/-- What the law of the states reads of a channel. -/
theorem stateFits_of_same {c d : Channel} (state : d.state = c.state) (held : d.held.isSome = c.held.isSome)
    (drain : d.drain = c.drain) (enabled : d.enabled = c.enabled) (frame : d.frame = c.frame) :
    stateFits d = stateFits c := by
  have free : d.held.isNone = c.held.isNone := by
    rw [← Option.not_isSome, ← Option.not_isSome, held]
  simp only [stateFits, state, held, free, drain, enabled, frame]

/-- Record work keeps the laws of a channel. -/
theorem SameBus.law {c d : Channel} (same : SameBus c d) (h : ChannelLaw c) : ChannelLaw d := by
  have fits : stateFits d = stateFits c :=
    stateFits_of_same (by rw [same.rest]) same.isSome (by rw [same.rest]) (by rw [same.rest]) (by rw [same.rest])
  refine channelLaw_of_base (same.base (baseLaw_of_law h)) ?_ (fits.trans h.state)
  rw [same.unitFrame, ← h.frame, same.rest]

/-- Figures 6-1 to 6-3: the five ways a state goes with the unit, the drain and the enable setting. -/
theorem stateFits_iff (c : Channel) :
    stateFits c = true ↔
      (c.state = .off ∧ c.held = none ∧ c.drain = .none ∧ c.enabled = false) ∨
      (c.state = .idle ∧ c.held = none ∧ c.drain = .none ∧ c.enabled = true) ∨
      (c.state = .busy ∧ c.held.isSome = true ∧ c.drain = .none ∧ c.enabled = true) ∨
      (c.state = .draining ∧ c.held.isSome = true ∧
        ((c.drain = .disable ∧ c.enabled = false) ∨
          (c.drain = .abort ∧ c.enabled = true ∧ (c.frame.bind FlyingFrame.rate).isSome = true))) ∨
      (c.state = .halted ∧ c.held = none ∧ c.drain = .none ∧ c.enabled = true) := by
  cases h : c.state <;> simp [stateFits, h, and_assoc]

/-! ### Between frames -/

/-- A channel whose frame has ended, or that has not begun one, and whose unit may go on or end. -/
structure Between (c : Channel) : Prop where
  base : BaseLaw c
  frame : c.frame = none
  state : (c.state = .idle ∧ c.drain = .none ∧ c.enabled = true) ∨
    (c.state = .draining ∧ c.drain = .disable ∧ c.enabled = false)

theorem SameBus.between {c d : Channel} (same : SameBus c d) (h : Between c) : Between d :=
  ⟨same.base h.base, by rw [same.rest]; exact h.frame, by rw [same.rest]; exact h.state⟩

/-- An IDLE channel holds no unit and stands between frames. -/
theorem between_of_idle {c : Channel} (h : ChannelLaw c) (idle : c.state = .idle) : Between c ∧ c.held = none := by
  have fits := (stateFits_iff c).1 h.state
  simp only [idle, reduceCtorEq, false_and, true_and, false_or, or_false] at fits
  obtain ⟨free, drain, enabled⟩ := fits
  have frame : c.frame = none := by simpa [free] using h.frame
  exact ⟨⟨baseLaw_of_law h, frame, .inl ⟨idle, drain, enabled⟩⟩, free⟩

/-- A channel between frames with no unit and no drain is in its law. -/
theorem law_of_between {c : Channel} (h : Between c) (free : c.held = none) (drain : c.drain ≠ .disable) :
    ChannelLaw c := by
  refine channelLaw_of_base h.base (by simp [h.frame, free]) ((stateFits_iff c).2 (.inr (.inl ?_)))
  obtain ⟨idle, none, enabled⟩ | ⟨-, disabling, -⟩ := h.state
  · exact ⟨idle, free, none, enabled⟩
  · exact absurd disabling drain

/-- R109, R113: a unit of a channel between frames hands its frame over. -/
theorem law_of_handed {c : Channel} (h : Between c) (u : HeldUnit) (mayOmit : Bool) :
    ChannelLaw (frameHanded c u (unitFrame u) mayOmit) := by
  have off : (frameHanded c u (unitFrame u) mayOmit).state = .off ↔ c.state = .off := by
    obtain ⟨idle, -⟩ | ⟨draining, -⟩ := h.state <;> simp [frameHanded, *]
  refine channelLaw_of_base (baseLaw_of_same h.base rfl rfl rfl h.base.sched Iff.rfl rfl off) rfl
    ((stateFits_iff _).2 ?_)
  obtain ⟨idle, none, enabled⟩ | ⟨draining, disabling, disabled⟩ := h.state
  · simp [frameHanded, idle, none, enabled]
  · simp [frameHanded, draining, disabling, disabled]

/-- R100: a unit's end leaves a channel between frames. -/
theorem between_freed {c : Channel} (h : Between c) : Between { c with held := none } :=
  ⟨⟨h.base.weight, h.base.turn, h.base.divider, h.base.sched, h.base.stopped, h.base.offPass⟩, h.frame, h.state⟩

/-- A channel after its unit has gone on or ended: between frames with none, or in its law with one. -/
def Ran (c : Channel) : Prop := (Between c ∧ c.held = none) ∨ (ChannelLaw c ∧ c.held.isSome = true)

/-- R112: the end of a frame outside an abort drain. -/
theorem between_frameDone {c : Channel} (h : ChannelLaw c) {f : FlyingFrame} (flying : c.frame = some f)
    (drain : c.drain ≠ .abort) (res : FrameResult) : Between (c.frameDone f res) := by
  have held : c.held.isSome = true := by
    have frames := congrArg Option.isSome h.frame
    simpa [flying] using frames.symm
  have fits := (stateFits_iff c).1 h.state
  have some_unit : c.held ≠ none := by
    rintro none_held
    simp [none_held] at held
  simp only [some_unit, held, false_and, and_false, false_or, true_and, or_false, drain] at fits
  have base := baseLaw_of_law h
  obtain ⟨busy, none, enabled⟩ | ⟨draining, disabling, disabled⟩ := fits
  · exact ⟨⟨base.weight, base.turn, base.divider, base.sched,
        by simpa [Channel.frameDone, busy] using base.stopped, by simp [Channel.frameDone, busy]⟩, rfl,
      .inl ⟨by simp [Channel.frameDone, busy], none, enabled⟩⟩
  · exact ⟨⟨base.weight, base.turn, base.divider, base.sched,
        by simpa [Channel.frameDone, draining] using base.stopped, by simp [Channel.frameDone, draining]⟩, rfl,
      .inr ⟨by simp [Channel.frameDone, draining], disabling, disabled⟩⟩

/-! ### Ends of drains -/

/-- R77, R88: a pass cut short. -/
theorem schedLaw_abortEnd {c : Scheduler} (h : SchedLaw c) : SchedLaw c.abortEnd := by
  refine ⟨h.interval, h.length, nofun, ?_, nofun⟩
  have running : c.abortEnd.passTimer ≠ .expired := by
    simp only [Scheduler.abortEnd, Scheduler.cutPass]
    split <;> simp_all
  exact iff_of_false running (by simp [Scheduler.abortEnd, Scheduler.cutPass])

theorem stopped_abortEnd (c : Scheduler) : c.abortEnd.passTimer = .stopped ↔ c.passTimer = .stopped := by
  simp only [Scheduler.abortEnd, Scheduler.cutPass]
  split
  · next expired => simp [expired]
  · rfl

theorem schedLaw_disable {c : Scheduler} (h : SchedLaw c) : SchedLaw c.disable :=
  ⟨h.interval, h.length, nofun, by simp [Scheduler.disable, Scheduler.cutPass], nofun⟩

/-- R118 (a) to (c): a channel at the end of an abort drain. -/
def drainedByAbort (c : Channel) : Channel :=
  { c with hostQueue := [], chainOpen := false, sched := c.sched.abortEnd, drain := .none, state := c.state.afterAbort }

/-- R118: the end of an abort drain on a channel without unit and frame. -/
theorem law_of_drained {c : Channel} (h : BaseLaw c) (free : c.held = none) (frame : c.frame = none)
    (enabled : c.enabled = decide (c.state ≠ .off)) : ChannelLaw (drainedByAbort c) := by
  have off : c.state.afterAbort = .off ↔ c.state = .off := by cases c.state <;> simp [ChanState.afterAbort]
  refine channelLaw_of_base
    ⟨h.weight, h.turn, h.divider, schedLaw_abortEnd h.sched, ?_, fun _ => rfl⟩ (by simp [drainedByAbort, free, frame]) ?_
  · exact (stopped_abortEnd c.sched).trans (h.stopped.trans off.symm)
  · rw [stateFits_iff]
    cases state : c.state <;> simp_all [drainedByAbort, ChanState.afterAbort]

/-- Figures 6-1 to 6-3: the enable setting of a channel that does not drain for a disable. -/
theorem enabled_of_law {c : Channel} (h : ChannelLaw c) (drain : c.drain ≠ .disable) :
    c.enabled = decide (c.state ≠ .off) := by
  have fits := (stateFits_iff c).1 h.state
  obtain ⟨state, -, -, enabled⟩ | ⟨state, -, -, enabled⟩ | ⟨state, -, -, enabled⟩ |
    ⟨state, -, ⟨disabling, -⟩ | ⟨-, enabled, -⟩⟩ | ⟨state, -, -, enabled⟩ := fits
  case inr.inr.inr.inl.inl => exact absurd disabling drain
  all_goals simp [state, enabled]

/-- R116: a channel at the end of a disable drain. -/
theorem law_of_disabled {c : Channel} (h : BaseLaw c) (free : c.held = none) (frame : c.frame = none)
    (disabled : c.enabled = false) : ChannelLaw { c with state := .off, drain := .none, sched := c.sched.disable } :=
  channelLaw_of_base ⟨h.weight, h.turn, h.divider, schedLaw_disable h.sched, by simp [Scheduler.disable], fun _ => rfl⟩
    (by simp [free, frame]) ((stateFits_iff _).2 (.inl ⟨rfl, free, rfl, disabled⟩))

/-! ### The other claims on a channel -/

/-- R115: an OFF channel enabled. -/
theorem law_turnOn {c : Channel} (h : ChannelLaw c) (off : c.state = .off) : ChannelLaw c.turnOn := by
  have fits := (stateFits_iff c).1 h.state
  simp only [off, reduceCtorEq, false_and, true_and, or_false] at fits
  obtain ⟨free, drain, -⟩ := fits
  have frame : c.frame = none := by simpa [free] using h.frame
  have waiting : c.sched.pendingExpiry = false := by
    rw [← Bool.not_eq_true]
    intro pending
    have opened := h.sched.pending pending
    simp [h.offPass off] at opened
  refine channelLaw_of_base ⟨h.weight, h.turn, h.divider, ?_, by simp [Channel.turnOn, Scheduler.startTimer], nofun⟩
    (by simp [Channel.turnOn, free, frame]) ((stateFits_iff _).2 (.inr (.inl ⟨rfl, free, drain, rfl⟩)))
  exact ⟨h.sched.interval, h.sched.length, h.sched.position, by simp [Channel.turnOn, Scheduler.startTimer, waiting],
    h.sched.pending⟩

/-- R115: a channel without a grant disabled. -/
theorem law_turnOff {c : Channel} (h : ChannelLaw c) (free : c.held = none) (drain : c.drain = .none) :
    ChannelLaw c.turnOff :=
  channelLaw_of_base ⟨h.weight, h.turn, h.divider, schedLaw_disable h.sched,
      by simp [Channel.turnOff, Scheduler.disable], fun _ => rfl⟩
    (by simpa [Channel.turnOff, free] using h.frame) ((stateFits_iff _).2 (.inl ⟨rfl, free, drain, rfl⟩))

/-- A scheduler changed within its law on a channel whose timer stays stopped or not. -/
theorem law_of_sched {c : Channel} (h : ChannelLaw c) {d : Scheduler} (law : SchedLaw d)
    (stopped : d.passTimer = .stopped ↔ c.sched.passTimer = .stopped) (pass : c.state = .off → d.pass = none) :
    ChannelLaw { c with sched := d } :=
  channelLaw_of_base ⟨h.weight, h.turn, h.divider, law, stopped.trans h.stopped, pass⟩ h.frame h.state

/-- R119: a HALTED channel restarted. -/
theorem law_restarted {c : Channel} (h : ChannelLaw c) (halted : c.state = .halted) :
    ChannelLaw { c with state := .idle, established := 0 } := by
  have fits := (stateFits_iff c).1 h.state
  simp only [halted, reduceCtorEq, false_and, true_and, false_or] at fits
  obtain ⟨free, drain, enabled⟩ := fits
  refine channelLaw_of_base ⟨h.weight, h.turn, h.divider, h.sched, ?_, nofun⟩ h.frame
    ((stateFits_iff _).2 (.inr (.inl ⟨rfl, free, drain, enabled⟩)))
  rw [h.stopped, halted]
  simp

/-- R122: a channel after SOFT_RESET. -/
theorem law_softReset {c : Channel} (h : BaseLaw c) : ChannelLaw c.softReset := by
  refine channelLaw_of_base ⟨h.weight, Nat.le_refl _, h.divider, ?_, ?_, fun _ => rfl⟩ rfl ?_
  · refine ⟨h.sched.interval, Nat.zero_le _, nofun, ?_, nofun⟩
    simp only [Channel.softReset, Scheduler.softReset, Scheduler.reset]
    cases c.enabled <;> simp
  · simp only [Channel.softReset, Scheduler.softReset]
    cases c.enabled <;> simp
  · rw [stateFits_iff]
    cases enabled : c.enabled <;> simp [Channel.softReset, Channel.reset, enabled]

/-- R122: a channel after power-on / RSTN. -/
theorem law_reset : ChannelLaw Channel.reset :=
  channelLaw_of_base ⟨by decide, by decide, by decide, ⟨by decide, by decide, nofun, by decide, nofun⟩, by decide, fun _ => rfl⟩
    rfl rfl

end Sys2Proof.Laws
end

section
/-! PROOFS. Every step keeps the laws of the channels and of the timed command (R72, R92, R94, R104, R105, R112, R184). -/
namespace Sys2Proof.Laws

open Sys2Proof.Machine Sys2Proof.Safety

theorem other_ne (ch : Chan) : other ch ≠ ch := by cases ch <;> decide

theorem eq_other_of_ne {ch ch' : Chan} (h : ch' ≠ ch) : ch' = other ch := by
  cases ch <;> cases ch' <;> first | rfl | exact absurd rfl h

/-! ### The timed command -/

theorem channelsLaw_iff (s : State) : ChannelsLaw s ↔ (∀ ch, ChannelLaw (s.chan ch)) ∧ TimedLaw s := by
  constructor
  · rintro ⟨law0, law1, timed⟩
    refine ⟨?_, timed⟩
    rintro (_ | _)
    · exact law0
    · exact law1
  · rintro ⟨laws, timed⟩
    exact ⟨laws .ch0, laws .ch1, timed⟩

/-- The drain that a timed command awaits on a channel. -/
def timedWait (t : Timed) : Chan → Bool
  | .ch0 => t.wait0
  | .ch1 => t.wait1

/-- R184: the law of the timed command, channel by channel. -/
theorem timedLaw_iff (s : State) :
    TimedLaw s ↔ (s.cu.timed = none → ∀ ch, (s.chan ch).drain = .none) ∧
      ∀ t ∈ s.cu.timed, (∀ ch, timedWait t ch = decide ((s.chan ch).drain ≠ .none)) ∧ (∃ ch, timedWait t ch = true) ∧
        ((t.code = 17#8 ∧ ∀ ch, (s.chan ch).drain ≠ .abort) ∨
          ((t.code = 18#8 ∨ t.code = 20#8) ∧ ∀ ch, (s.chan ch).drain ≠ .disable)) := by
  have both : ∀ P : Chan → Prop, (∀ ch, P ch) ↔ P .ch0 ∧ P .ch1 := fun P =>
    ⟨fun h => ⟨h .ch0, h .ch1⟩, fun h => by rintro (_ | _); exacts [h.1, h.2]⟩
  have either : ∀ P : Chan → Prop, (∃ ch, P ch) ↔ P .ch0 ∨ P .ch1 := fun P =>
    ⟨by rintro ⟨_ | _, h⟩; exacts [.inl h, .inr h], by rintro (h | h); exacts [⟨_, h⟩, ⟨_, h⟩]⟩
  simp only [both, either]
  constructor
  · rintro ⟨idle, waits, kind⟩
    refine ⟨idle, fun t ht => ⟨⟨(waits t ht).1, (waits t ht).2.1⟩, ?_, ?_⟩⟩
    · simpa [timedWait] using (waits t ht).2.2
    · simpa [State.chan, and_assoc] using kind t ht
  · rintro ⟨idle, running⟩
    refine ⟨idle, fun t ht => ?_, fun t ht => ?_⟩
    · obtain ⟨⟨wait0, wait1⟩, some_wait, -⟩ := running t ht
      exact ⟨wait0, wait1, by simpa [timedWait] using some_wait⟩
    · obtain ⟨-, -, kind⟩ := running t ht
      simpa [State.chan, and_assoc] using kind

/-- The law reads the timed command and the drains. -/
theorem timedLaw_of_same {s t : State} (h : TimedLaw s) (timed : t.cu.timed = s.cu.timed)
    (drain : ∀ ch, (t.chan ch).drain = (s.chan ch).drain) : TimedLaw t := by
  rw [timedLaw_iff] at h ⊢
  simpa only [timed, drain] using h

/-! ### Claims on one channel -/

/-- `t` is `s` but for work on one channel that leaves its drain, with record work on the other. -/
structure Around (s t : State) (ch : Chan) : Prop where
  cu : t.cu = s.cu
  drain : (t.chan ch).drain = (s.chan ch).drain
  others : SameBus (s.chan (other ch)) (t.chan (other ch))

theorem Around.trans {s t u : State} {ch : Chan} (a : Around s t ch) (b : Around t u ch) : Around s u ch :=
  ⟨b.cu.trans a.cu, b.drain.trans a.drain, a.others.trans b.others⟩

theorem Recorded.around {s t : State} (h : Recorded s t) (ch : Chan) : Around s t ch :=
  ⟨h.cu, by rw [(h.chan ch).rest], h.chan _⟩

theorem around_modChan (s : State) (ch : Chan) {f : Channel → Channel} (drain : ∀ c, (f c).drain = c.drain) :
    Around s (s.modChan ch f) ch := by
  refine ⟨State.modChan_cu .., ?_, ?_⟩
  · rw [State.chan_modChan_self, drain]
  · rw [State.chan_modChan_of_ne _ _ _ _ (other_ne ch)]
    exact .refl _

/-- The laws after a claim around one channel, given that channel's own. -/
theorem Around.laws {s t : State} {ch : Chan} (around : Around s t ch) (h : ChannelsLaw s) (law : ChannelLaw (t.chan ch)) :
    ChannelsLaw t := by
  obtain ⟨laws, timed⟩ := (channelsLaw_iff s).1 h
  refine (channelsLaw_iff t).2 ⟨fun ch' => ?_, timedLaw_of_same timed (by rw [around.cu]) fun ch' => ?_⟩
  · by_cases here : ch' = ch
    · rw [here]
      exact law
    · rw [eq_other_of_ne here]
      exact around.others.law (laws _)
  · by_cases here : ch' = ch
    · rw [here]
      exact around.drain
    · rw [eq_other_of_ne here, around.others.rest]

/-- Record work keeps the laws. -/
theorem Recorded.laws {s t : State} (h : Recorded s t) (law : ChannelsLaw s) : ChannelsLaw t :=
  (h.around .ch0).laws law ((h.chan .ch0).law law.ch0)

theorem Apart.laws {s t : State} (h : Apart s t) (law : ChannelsLaw s) : ChannelsLaw t := by
  refine ⟨by rw [h.ch0]; exact law.ch0, by rw [h.ch1]; exact law.ch1, timedLaw_of_same law.timed h.timed ?_⟩
  rintro (_ | _)
  · exact congrArg Channel.drain h.ch0
  · exact congrArg Channel.drain h.ch1

/-- One channel changed within its law, its drain as it was. -/
theorem laws_modChan {s : State} (h : ChannelsLaw s) (ch : Chan) {f : Channel → Channel}
    (drain : ∀ c, (f c).drain = c.drain) (law : ChannelLaw (f (s.chan ch))) : ChannelsLaw (s.modChan ch f) :=
  (around_modChan s ch drain).laws h (by rw [State.chan_modChan_self]; exact law)

theorem channelLaw_chan {s : State} (h : ChannelsLaw s) (ch : Chan) : ChannelLaw (s.chan ch) := ((channelsLaw_iff s).1 h).1 ch

/-! ### Units -/

/-- R100, R109: a unit of a channel between frames goes on or ends. -/
theorem UnitMoves.ran {s t : State} {ch : Chan} {n : Nat} (h : UnitMoves s t ch n) (between : Between (s.chan ch)) :
    Around s t ch ∧ Ran (t.chan ch) := by
  obtain ⟨u, recorded, moves⟩ := h
  have between' := (recorded.chan ch).between between
  obtain ⟨l, -, rfl⟩ | ⟨x, mayOmit, -, rfl⟩ := moves
  · have ended : (u.endHost ch l).chan ch = { u.chan ch with held := none } := by
      rw [State.endHost, State.chan_modChan_self, State.chan_with_ht]
    refine ⟨(recorded.around ch).trans ⟨by simp [State.endHost], by rw [ended], ?_⟩, .inl ?_⟩
    · rw [State.endHost, State.chan_modChan_of_ne _ _ _ _ (other_ne ch), State.chan_with_ht]
      exact .refl _
    · rw [ended]
      exact ⟨between_freed between', rfl⟩
  · refine ⟨(recorded.around ch).trans (around_modChan u ch fun _ => rfl), .inr ?_⟩
    rw [State.chan_modChan_self]
    exact ⟨law_of_handed between' x mayOmit, rfl⟩

/-- R100: a unit cut short ends, and the rest of its channel is as it was. -/
theorem UnitEnds.freed {s t : State} {ch : Chan} {n : Nat} (h : UnitEnds s t ch n) :
    Around s t ch ∧ ∃ d, SameBus (s.chan ch) d ∧ t.chan ch = { d with held := none } := by
  obtain ⟨u, l, recorded, -, rfl⟩ := h
  have ended : (u.endHost ch l).chan ch = { u.chan ch with held := none } := by
    rw [State.endHost, State.chan_modChan_self, State.chan_with_ht]
  refine ⟨(recorded.around ch).trans ⟨by simp [State.endHost], by rw [ended], ?_⟩, _, recorded.chan ch, ended⟩
  rw [State.endHost, State.chan_modChan_of_ne _ _ _ _ (other_ne ch), State.chan_with_ht]
  exact .refl _

/-- R110, R117: after a unit has been cut short its channel holds none and is otherwise as it was. -/
theorem cutUnit_freed (s : State) (ch : Chan) (o : JobOutcome) (res : HostResult) :
    Around s (s.cutUnit ch o res) ch ∧
    ∃ d, SameBus (s.chan ch) d ∧ (s.cutUnit ch o res).chan ch = { d with held := none } := by
  cases held : (s.chan ch).held with
  | none =>
    have same : s.cutUnit ch o res = s := by simp only [State.cutUnit, held]
    rw [same]
    refine ⟨⟨rfl, rfl, .refl _⟩, _, .refl _, ?_⟩
    cases c : s.chan ch
    simp_all
  | some u => exact (unitEnds_cutUnit held o res).freed

theorem abortFrameEnd_freed (s : State) (ch : Chan) (res : FrameResult) :
    Around s (s.abortFrameEnd ch res) ch ∧
    ∃ d, SameBus (s.chan ch) d ∧ (s.abortFrameEnd ch res).chan ch = { d with held := none } := by
  cases held : (s.chan ch).held with
  | none =>
    have same : s.abortFrameEnd ch res = s := by simp only [State.abortFrameEnd, held]
    rw [same]
    refine ⟨⟨rfl, rfl, .refl _⟩, _, .refl _, ?_⟩
    cases c : s.chan ch
    simp_all
  | some u => exact (unitEnds_abortFrameEnd held res).freed

/-! ### Decisions -/

/-- R84: the scheduler after a member or an entry has been taken. -/
theorem schedLaw_takeSource {c d : Scheduler} {x : Source} (h : Consulted c d (some x)) : SchedLaw (d.takeSource x.1) := by
  obtain ⟨k, p⟩ := x
  cases k
  case regular =>
    refine ⟨h.law.interval, h.law.length, ?_, h.law.expired, ?_⟩
    · intro q taken
      simp only [Scheduler.takeSource, Option.mem_def, Option.map_eq_some_iff] at taken
      obtain ⟨q, opened, rfl⟩ := taken
      exact h.entry p rfl q opened
    · intro waiting
      have opened := h.law.pending waiting
      simpa [Scheduler.takeSource] using opened
  all_goals exact schedLaw_of_same h.law rfl rfl rfl rfl rfl

theorem takeSource_timer (c : Scheduler) (k : DeviceKind) : (c.takeSource k).passTimer = c.passTimer := by
  cases k <;> rfl

/-- A channel between frames, with its scheduler and its host-turn counter replaced. -/
theorem between_granted {c : Channel} (h : Between c) (idle : c.state = .idle) {d : Scheduler} (law : SchedLaw d)
    (stopped : d.passTimer = .stopped ↔ c.sched.passTimer = .stopped) {n : Nat} (turn : n ≤ c.hostWeight)
    (queue : List (List HostTxn)) : Between { c with sched := d, hostTurn := n, hostQueue := queue } :=
  ⟨⟨h.base.weight, turn, h.base.divider, law, stopped.trans h.base.stopped, fun off => by simp [idle] at off⟩, h.frame,
    h.state⟩

/-- R95 to R99: one decision keeps the laws. -/
theorem laws_decideOnce {s : State} {ch : Chan} (h : ChannelsLaw s) (may : s.mayDecide ch = true) :
    ChannelsLaw (s.decideOnce ch).1 := by
  obtain ⟨idle, free, -⟩ := (mayDecide_iff s ch).1 may
  have law := channelLaw_chan h ch
  obtain ⟨between, -⟩ := between_of_idle law idle
  have looked := consult_consulted law.sched
  have drain : ((s.chan ch).drain) ≠ .disable := by
    obtain ⟨-, none, -⟩ | ⟨draining, -⟩ := between.state
    · simp [none]
    · simp [idle] at draining
  have around : Around s (consulted s ch) ch :=
    around_modChan s ch (f := fun c => { c with sched := (s.consult ch).1 }) fun _ => rfl
  have between' := between_granted between idle looked.law looked.stopped law.turn (s.chan ch).hostQueue
  have chan : (consulted s ch).chan ch = { s.chan ch with sched := (s.consult ch).1 } := chan_consulted s ch
  obtain ⟨-, -, same⟩ | ⟨x, found, device⟩ | ⟨u, rest, queue, tail, host⟩ := decideOnce_cases s ch
  · rw [same]
    refine around.laws h ?_
    rw [chan]
    exact law_of_between between' free drain
  · rw [device]
    rw [found] at looked
    have taken : Between { (consulted s ch).chan ch with
        sched := ((consulted s ch).chan ch).sched.takeSource x.1
        hostTurn := ((consulted s ch).chan ch).hostWeight } := by
      rw [chan]
      exact between_granted between idle (schedLaw_takeSource looked)
        (by rw [takeSource_timer]; exact looked.stopped) (Nat.le_refl _) (s.chan ch).hostQueue
    unfold State.grantDevice
    dsimp only
    split
    · next j _ =>
      have granted : Around (consulted s ch) ((consulted s ch).modChan ch fun c =>
          Channel.runJob { c with sched := c.sched.takeSource x.1, hostTurn := c.hostWeight } j) ch :=
        around_modChan _ ch fun _ => rfl
      refine (around.trans granted).laws h ?_
      rw [State.chan_modChan_self]
      exact law_of_handed taken (.job j) j.profile.preamble
    · have granted : Around (consulted s ch) ((consulted s ch).modChan ch fun c =>
          { c with sched := c.sched.takeSource x.1, hostTurn := c.hostWeight }) ch := around_modChan _ ch fun _ => rfl
      refine (around.trans granted).laws h ?_
      rw [State.chan_modChan_self]
      refine law_of_between taken ?_ ?_
      · rw [chan]
        exact free
      · rw [chan]
        exact drain
  · rw [host]
    have granted : Around (consulted s ch) ((consulted s ch).modChan ch fun c => hostGranted c rest) ch :=
      around_modChan _ ch fun _ => rfl
    have lowered : Between (((consulted s ch).modChan ch fun c => hostGranted c rest).chan ch) := by
      rw [State.chan_modChan_self, chan]
      exact between_granted between idle looked.law looked.stopped ((Nat.sub_le _ _).trans law.turn) rest
    obtain ⟨judged, ran⟩ :=
      (unitMoves_hostProceed ((consulted s ch).modChan ch fun c => hostGranted c rest) ch [] u).ran lowered
    have moved := (around.trans granted).trans judged
    refine moved.laws h ?_
    obtain ⟨ended, none_held⟩ | ⟨running, -⟩ := ran
    · exact law_of_between ended none_held (by rw [moved.drain]; exact drain)
    · exact running

theorem laws_notice {s : State} (h : ChannelsLaw s) (ch : Chan) : ChannelsLaw (s.notice ch) :=
  notice_keeps (fun _ law may => laws_decideOnce law may) h

theorem laws_noticeOf {s : State} (h : ChannelsLaw s) (b : Option Binding) : ChannelsLaw (s.noticeOf b) := by
  cases b with
  | none => exact h
  | some b => exact laws_notice h b.channel

/-! ### Resets -/

/-- The laws of the channels with no timed command. -/
theorem laws_of_idle {s : State} (laws : ∀ ch, ChannelLaw (s.chan ch)) (timed : s.cu.timed = none)
    (drains : ∀ ch, (s.chan ch).drain = .none) : ChannelsLaw s :=
  (channelsLaw_iff s).2 ⟨laws, (timedLaw_iff s).2 ⟨fun _ => drains, by simp [timed]⟩⟩

theorem laws_dynamicReset {s : State} (base : ∀ ch, BaseLaw (s.chan ch)) {c : CommandUnit} (timed : c.timed = none) :
    ChannelsLaw { s.dynamicReset with cu := c } :=
  laws_of_idle
    (by rintro (_ | _)
        · exact law_softReset (base .ch0)
        · exact law_softReset (base .ch1))
    timed (by rintro (_ | _) <;> rfl)

theorem laws_powerOn (s : State) (low : Bool) : ChannelsLaw (s.powerOn low) :=
  laws_of_idle (by rintro (_ | _) <;> exact law_reset) rfl (by rintro (_ | _) <;> rfl)

/-! ### Ends of drains -/

theorem wait_ended (t : Timed) (ch : Chan) : timedWait (t.ended ch) ch = false ∧ timedWait (t.ended ch) (other ch) = timedWait t (other ch) := by
  cases ch <;> exact ⟨rfl, rfl⟩

theorem waits_ended (t : Timed) (ch : Chan) :
    ((t.ended ch).wait0 || (t.ended ch).wait1) = timedWait t (other ch) := by
  cases ch <;> simp [Timed.ended, timedWait, other]

/-- R184: the drain of a channel has ended: `u` is `s` but for that, and the Command Unit is told. -/
theorem laws_drainReport {s u : State} {ch : Chan} (h : TimedLaw s) (cu : u.cu = s.cu)
    (draining : (s.chan ch).drain ≠ .none) (ended : (u.chan ch).drain = .none)
    (others : (u.chan (other ch)).drain = (s.chan (other ch)).drain) (laws : ∀ ch, ChannelLaw (u.chan ch)) :
    ChannelsLaw (u.drainReport ch) := by
  obtain ⟨idle, running⟩ := (timedLaw_iff s).1 h
  cases timed : s.cu.timed with
  | none => exact absurd (idle timed ch) draining
  | some t =>
    obtain ⟨waits, -, kind⟩ := running t timed
    have code : (t.ended ch).code = t.code := by cases ch <;> rfl
    have drain : ∀ ch', ch' ≠ ch → (u.chan ch').drain = (s.chan ch').drain := fun ch' apart => by
      rw [eq_other_of_ne apart, others]
    unfold State.drainReport
    rw [cu, timed]
    dsimp only
    rw [waits_ended, code]
    split
    · next waiting =>
      refine (channelsLaw_iff _).2 ⟨by simpa using laws, (timedLaw_iff _).2 ⟨nofun, ?_⟩⟩
      rintro _ ⟨⟩
      simp only [State.chan_with_cu]
      refine ⟨fun ch' => ?_, ⟨other ch, by rw [(wait_ended t ch).2]; exact waiting⟩, ?_⟩
      · by_cases here : ch' = ch
        · rw [here, (wait_ended t ch).1, ended]
          simp
        · rw [eq_other_of_ne here, (wait_ended t ch).2, others]
          exact waits _
      · rw [code]
        have kept : ∀ d : Drain, d ≠ .none → (∀ ch', (s.chan ch').drain ≠ d) → ∀ ch', (u.chan ch').drain ≠ d := by
          intro d some_drain was ch'
          by_cases here : ch' = ch
          · rw [here, ended]
            exact some_drain.symm
          · rw [drain ch' here]
            exact was ch'
        exact kind.imp (And.imp_right (kept .abort (by decide))) (And.imp_right (kept .disable (by decide)))
    · next done =>
      have all_ended : ∀ ch', (u.chan ch').drain = .none := by
        intro ch'
        by_cases here : ch' = ch
        · rw [here, ended]
        · rw [drain ch' here, eq_other_of_ne here]
          have none_waits := waits (other ch)
          rw [Bool.not_eq_true] at done
          rw [done] at none_waits
          simpa using none_waits.symm
      split
      · exact laws_notice (laws_notice (laws_dynamicReset (fun ch => baseLaw_of_law (laws ch)) rfl) .ch0) .ch1
      · exact laws_of_idle (by simpa using laws) rfl (by simpa using all_ended)

/-- R116: the end of a disable drain. -/
theorem laws_disableDrainEnd {s : State} {ch : Chan} (timed : TimedLaw s) (others : ChannelLaw (s.chan (other ch)))
    (between : Between (s.chan ch)) (free : (s.chan ch).held = none) (drain : (s.chan ch).drain = .disable) :
    ChannelsLaw (s.disableDrainEnd ch) := by
  have disabled : (s.chan ch).enabled = false := by
    obtain ⟨-, none, -⟩ | ⟨-, -, disabled⟩ := between.state
    · simp [drain] at none
    · exact disabled
  refine laws_drainReport (s := s) timed (State.modChan_cu ..) (by simp [drain]) (by rw [State.chan_modChan_self]) ?_
    fun ch' => ?_
  · rw [State.chan_modChan_of_ne _ _ _ _ (other_ne ch)]
  · by_cases here : ch' = ch
    · rw [here, State.chan_modChan_self]
      exact law_of_disabled between.base free between.frame disabled
    · rw [State.chan_modChan_of_ne _ _ _ _ here, eq_other_of_ne here]
      exact others

/-- R100, R116: what follows when a unit may have ended. -/
theorem laws_afterUnit {s t : State} {ch : Chan} (h : ChannelsLaw s) (around : Around s t ch) (ran : Ran (t.chan ch)) :
    ChannelsLaw (t.afterUnit ch) := by
  obtain ⟨laws, timed⟩ := (channelsLaw_iff s).1 h
  unfold State.afterUnit
  obtain ⟨between, free⟩ | ⟨law, held⟩ := ran
  · rw [if_neg (by simp [free])]
    split
    · next disabling =>
      refine laws_disableDrainEnd (timedLaw_of_same timed (by rw [around.cu]) fun ch' => ?_)
        (around.others.law (laws _)) between free disabling
      by_cases here : ch' = ch
      · rw [here]
        exact around.drain
      · rw [eq_other_of_ne here, around.others.rest]
    · next drain => exact laws_notice (around.laws h (law_of_between between free drain)) ch
  · rw [if_pos held]
    exact around.laws h law

/-- R118: the end of an abort drain whose channel has been freed of its unit and its frame. -/
theorem chan_abortDrainEnd (s : State) (ch : Chan) : (s.abortDrainEnd ch).chan ch = drainedByAbort (s.chan ch) := by
  rw [State.abortDrainEnd, State.chan_modChan_self, State.chan_with_ht]
  rfl

theorem other_abortDrainEnd (s : State) (ch : Chan) :
    (s.abortDrainEnd ch).chan (other ch) = s.chan (other ch) := by
  rw [State.abortDrainEnd, State.chan_modChan_of_ne _ _ _ _ (other_ne ch), State.chan_with_ht]

theorem cu_abortDrainEnd (s : State) (ch : Chan) : (s.abortDrainEnd ch).cu = s.cu := by
  simp [State.abortDrainEnd]

/-! ### FRAME_END -/

theorem laws_takeFrameEnd {s : State} (h : ChannelsLaw s) (ch : Chan) (turnaround : Bool) (data : Word) :
    ChannelsLaw (s.takeFrameEnd ch turnaround data) := by
  unfold State.takeFrameEnd
  split
  · next f flying =>
    split
    · have law := channelLaw_chan h ch
      have gone : Around s (s.modChan ch fun c => c.frameDone f (f.frame.result turnaround data)) ch :=
        around_modChan s ch fun _ => rfl
      unfold State.frameEnd
      dsimp only
      split
      · next aborting =>
        rw [gone.drain] at aborting
        obtain ⟨around, d, same, freed⟩ := abortFrameEnd_freed
          (s.modChan ch fun c => c.frameDone f (f.frame.result turnaround data)) ch (f.frame.result turnaround data)
        have cut := gone.trans around
        rw [State.chan_modChan_self] at same
        have draining : (s.chan ch).state = .draining := by
          have fits := (stateFits_iff _).1 law.state
          simp only [aborting, reduceCtorEq, false_and, and_false, true_and, false_or, or_false] at fits
          exact fits.1
        have base : BaseLaw ((s.chan ch).frameDone f (f.frame.result turnaround data)) :=
          ⟨law.weight, law.turn, law.divider, law.sched, by simpa [Channel.frameDone, draining] using law.stopped,
            by simp [Channel.frameDone, draining]⟩
        have enabled : (s.chan ch).enabled = true := by
          simpa [draining] using enabled_of_law law (by simp [aborting])
        have drained : ChannelLaw (drainedByAbort { d with held := none }) := by
          have base' := same.base base
          refine law_of_drained ⟨base'.weight, base'.turn, base'.divider, base'.sched, base'.stopped, base'.offPass⟩ rfl
            (by rw [same.rest]; rfl) ?_
          rw [same.rest]
          simp [Channel.frameDone, draining, enabled]
        refine laws_notice (laws_drainReport (s := s) ((channelsLaw_iff s).1 h).2 ?_ (by simp [aborting]) ?_ ?_ ?_) ch
        · rw [cu_abortDrainEnd, cut.cu]
        · rw [chan_abortDrainEnd]
          rfl
        · rw [other_abortDrainEnd, cut.others.rest]
        · intro ch'
          by_cases here : ch' = ch
          · rw [here, chan_abortDrainEnd, freed]
            exact drained
          · rw [eq_other_of_ne here, other_abortDrainEnd]
            exact cut.others.law (channelLaw_chan h _)
      · next drain =>
        rw [gone.drain] at drain
        have between : Between ((s.modChan ch fun c => c.frameDone f (f.frame.result turnaround data)).chan ch) := by
          rw [State.chan_modChan_self]
          exact between_frameDone law flying drain _
        cases held : ((s.modChan ch fun c => c.frameDone f (f.frame.result turnaround data)).chan ch).held with
        | none =>
          have same : ∀ res, (s.modChan ch fun c => c.frameDone f (f.frame.result turnaround data)).unitFrameEnd ch res =
              s.modChan ch fun c => c.frameDone f (f.frame.result turnaround data) := fun res => by
            simp only [State.unitFrameEnd, held]
          rw [same]
          exact laws_afterUnit h gone (.inl ⟨between, held⟩)
        | some u =>
          obtain ⟨around, ran⟩ := (unitMoves_unitFrameEnd held (f.frame.result turnaround data)).ran between
          exact laws_afterUnit h (gone.trans around) ran
    · exact h
  · exact h

/-! ### IDLE_LINE_CHECK -/

/-- R109: a frame that waits out its gap is of a busy unit or one that a disable drains. -/
theorem waiting_cases {c : Channel} (h : ChannelLaw c) {f : FlyingFrame} (waiting : c.frame = some f)
    (unstarted : f.rate.isSome ≠ true) :
    c.held.isSome = true ∧ ((c.state = .busy ∧ c.drain = .none ∧ c.enabled = true) ∨
      (c.state = .draining ∧ c.drain = .disable ∧ c.enabled = false)) := by
  have held : c.held.isSome = true := by
    have frames := congrArg Option.isSome h.frame
    simpa [waiting] using frames.symm
  refine ⟨held, ?_⟩
  have some_unit : c.held ≠ none := by
    rintro none_held
    simp [none_held] at held
  have fits := (stateFits_iff c).1 h.state
  simpa [some_unit, held, waiting, unstarted] using fits

/-- R64: the frame of a stale job taken back. -/
theorem between_withdrawn {c : Channel} (h : ChannelLaw c) {f : FlyingFrame} (waiting : c.frame = some f)
    (unstarted : f.rate.isSome ≠ true) :
    Between { c with frame := none, state := if c.state = .busy then .idle else c.state } := by
  obtain ⟨-, ⟨busy, none, enabled⟩ | ⟨draining, disabling, disabled⟩⟩ := waiting_cases h waiting unstarted
  · exact ⟨⟨h.weight, h.turn, h.divider, h.sched, by simpa [busy] using h.stopped, by simp [busy]⟩, rfl,
      .inl ⟨by simp [busy], none, enabled⟩⟩
  · exact ⟨⟨h.weight, h.turn, h.divider, h.sched, by simpa [draining] using h.stopped, by simp [draining]⟩, rfl,
      .inr ⟨by simp [draining], disabling, disabled⟩⟩

/-- R109: the waiting frame begins. -/
theorem law_started {c : Channel} (h : ChannelLaw c) {f : FlyingFrame} (waiting : c.frame = some f)
    (unstarted : f.rate.isSome ≠ true) (rate : Option Nat) : ChannelLaw { c with frame := some { f with rate := rate } } := by
  refine channelLaw_of_base ⟨h.weight, h.turn, h.divider, h.sched, h.stopped, h.offPass⟩ ?_ ((stateFits_iff _).2 ?_)
  · rw [← h.frame, waiting]
    rfl
  · obtain ⟨held, ⟨busy, none, enabled⟩ | ⟨draining, disabling, disabled⟩⟩ := waiting_cases h waiting unstarted
    · simp [held, busy, none, enabled]
    · simp [held, draining, disabling, disabled]

theorem laws_lineFault {s : State} (h : ChannelsLaw s) {ch : Chan} {f : FlyingFrame}
    (waiting : (s.chan ch).frame = some f) (unstarted : f.rate.isSome ≠ true) : ChannelsLaw (s.lineFault ch) := by
  have law := channelLaw_chan h ch
  have cut : Around s (lineCut s ch) ch := around_modChan s ch fun _ => rfl
  obtain ⟨around, d, same, freed⟩ := cutUnit_freed (lineCut s ch) ch .busFault .busFault
  have posted := recorded_post ((lineCut s ch).cutUnit ch .busFault .busFault) (.channelFault ch)
  have flagged : Around (((lineCut s ch).cutUnit ch .busFault .busFault).post (.channelFault ch)) (lineFaulted s ch) ch :=
    ⟨rfl, by rw [lineFaulted, State.chan_with_ev], by rw [lineFaulted, State.chan_with_ev]; exact .refl _⟩
  have faulted : Around s (lineFaulted s ch) ch := ((cut.trans around).trans (posted.around ch)).trans flagged
  have event : ((lineCut s ch).cutUnit ch .busFault .busFault).post (.channelFault ch) =
      { (lineCut s ch).cutUnit ch .busFault .busFault with
        ev := (((lineCut s ch).cutUnit ch .busFault .busFault).ev.take (.channelFault ch)
          ((lineCut s ch).cutUnit ch .busFault .busFault).stamp).1 } := post_of_none _ _ rfl
  have chan : (lineFaulted s ch).chan ch = { d with held := none } := by
    rw [lineFaulted, State.chan_with_ev, event, State.chan_with_ev, freed]
  rw [lineCut, State.chan_modChan_self] at same
  rw [lineFault_eq]
  obtain ⟨-, ⟨busy, none, enabled⟩ | ⟨draining, disabling, disabled⟩⟩ := waiting_cases law waiting unstarted
  · have drain : ((lineFaulted s ch).chan ch).drain = .none := by rw [faulted.drain, none]
    rw [if_neg (by simp [drain])]
    refine faulted.laws h ?_
    rw [chan]
    have base : BaseLaw { s.chan ch with
        frame := Option.none, state := if (s.chan ch).drain = .disable then (s.chan ch).state else .halted } :=
      ⟨law.weight, law.turn, law.divider, law.sched, by simpa [none, busy] using law.stopped, by simp [none]⟩
    have base' := same.base base
    refine channelLaw_of_base ⟨base'.weight, base'.turn, base'.divider, base'.sched, base'.stopped, base'.offPass⟩ ?_
      ((stateFits_iff _).2 ?_)
    · rw [same.rest]
      rfl
    · rw [same.rest]
      simp [none, enabled]
  · have drain : ((lineFaulted s ch).chan ch).drain = .disable := by rw [faulted.drain, disabling]
    rw [if_pos drain]
    have base : Between { s.chan ch with
        frame := Option.none, state := if (s.chan ch).drain = .disable then (s.chan ch).state else .halted } :=
      ⟨⟨law.weight, law.turn, law.divider, law.sched, by simpa [disabling, draining] using law.stopped,
        by simp [disabling, draining]⟩, rfl, .inr ⟨by simp [disabling, draining], disabling, disabled⟩⟩
    have between : Between ((lineFaulted s ch).chan ch) := by
      rw [chan]
      exact between_freed (same.between base)
    refine laws_disableDrainEnd (timedLaw_of_same ((channelsLaw_iff s).1 h).2 (by rw [faulted.cu]) fun ch' => ?_)
      (faulted.others.law (channelLaw_chan h _)) between (by rw [chan]) drain
    by_cases here : ch' = ch
    · rw [here]
      exact faulted.drain
    · rw [eq_other_of_ne here, faulted.others.rest]

/-- R109: the level of the line noted. -/
theorem laws_noted {s : State} (h : ChannelsLaw s) (ch : Chan) (level : Bool) :
    ChannelsLaw (s.modChan ch fun c => { c with mdioHigh := level }) := by
  have law := channelLaw_chan h ch
  exact laws_modChan h ch (fun _ => rfl)
    (channelLaw_of_base ⟨law.weight, law.turn, law.divider, law.sched, law.stopped, law.offPass⟩ law.frame law.state)

theorem laws_takeIdleLineCheck {s : State} (h : ChannelsLaw s) (ch : Chan) (level : Bool) :
    ChannelsLaw (s.takeIdleLineCheck ch level) := by
  unfold State.takeIdleLineCheck
  split
  · exact h
  · next f waiting =>
    split
    · exact h
    · next unstarted =>
      have noted := laws_noted h ch level
      have waiting' : ((s.modChan ch fun c => { c with mdioHigh := level }).chan ch).frame = some f := by
        rw [State.chan_modChan_self]
        exact waiting
      dsimp only
      split
      · exact laws_lineFault noted waiting' unstarted
      · split
        · have withdrawn : Around (s.modChan ch fun c => { c with mdioHigh := level })
              ((s.modChan ch fun c => { c with mdioHigh := level }).modChan ch fun c =>
                { c with frame := none, state := if c.state = .busy then .idle else c.state }) ch :=
            around_modChan _ ch fun _ => rfl
          obtain ⟨around, d, same, freed⟩ := cutUnit_freed
            ((s.modChan ch fun c => { c with mdioHigh := level }).modChan ch fun c =>
              { c with frame := none, state := if c.state = .busy then .idle else c.state }) ch .aborted .aborted
          rw [State.chan_modChan_self] at same
          refine laws_afterUnit noted (withdrawn.trans around) (.inl ?_)
          rw [freed]
          exact ⟨between_freed (same.between (between_withdrawn (channelLaw_chan noted ch) waiting' unstarted)), rfl⟩
        · exact laws_modChan noted ch (fun _ => rfl) (law_started (channelLaw_chan noted ch) waiting' unstarted _)

end Sys2Proof.Laws
end

section
/-! PROOFS. What the rows do to the laws of the channels (`rules_channelsLaw`), and with them O57. -/
namespace Sys2Proof.Laws

open Sys2Proof.Machine Sys2Proof.Safety

/-- The laws read the channels and the timed command. -/
theorem laws_of_same {s t : State} (h : ChannelsLaw s) (ch0 : t.ch0 = s.ch0) (ch1 : t.ch1 = s.ch1)
    (timed : t.cu.timed = s.cu.timed) : ChannelsLaw t := by
  refine ⟨by rw [ch0]; exact h.ch0, by rw [ch1]; exact h.ch1, timedLaw_of_same h.timed timed ?_⟩
  rintro (_ | _)
  · exact congrArg Channel.drain ch0
  · exact congrArg Channel.drain ch1

/-- A scheduler changed within its law. -/
theorem laws_modSched {s : State} (h : ChannelsLaw s) (ch : Chan) {f : Scheduler → Scheduler}
    (law : SchedLaw (f (s.chan ch).sched))
    (stopped : (f (s.chan ch).sched).passTimer = .stopped ↔ (s.chan ch).sched.passTimer = .stopped)
    (pass : (s.chan ch).state = .off → (f (s.chan ch).sched).pass = none) : ChannelsLaw (s.modSched ch f) :=
  laws_modChan h ch (f := fun c => { c with sched := f c.sched }) (fun _ => rfl)
    (law_of_sched (channelLaw_chan h ch) law stopped pass)

/-- A scheduler's settings changed: the pass, its timer and the pending expiry stay. -/
theorem laws_configured {s : State} (h : ChannelsLaw s) (ch : Chan) {f : Scheduler → Scheduler}
    (interval : 1 ≤ (f (s.chan ch).sched).passInterval ∧ (f (s.chan ch).sched).passInterval ≤ 65535)
    (length : (f (s.chan ch).sched).scanLength ≤ 32) (pass : ∀ c, (f c).pass = c.pass)
    (timer : ∀ c, (f c).passTimer = c.passTimer) (pending : ∀ c, (f c).pendingExpiry = c.pendingExpiry) :
    ChannelsLaw (s.modSched ch f) := by
  have law := channelLaw_chan h ch
  exact laws_modSched h ch
    ⟨interval, length, by rw [pass]; exact law.sched.position, by rw [timer, pending]; exact law.sched.expired,
      by rw [pass, pending]; exact law.sched.pending⟩ (by rw [timer]) (by rw [pass]; exact law.offPass)

/-! ### Timed commands (R184) -/

theorem drain_of_idle {s : State} (h : ChannelsLaw s) (timed : s.cu.timed = none) (ch : Chan) :
    (s.chan ch).drain = .none := ((timedLaw_iff s).1 h.timed).1 timed ch

/-- A command begins that awaits the drains which run. -/
theorem laws_startTimed {s : State} (laws : ∀ ch, ChannelLaw (s.chan ch)) {code : BitVec 8} {wait0 wait1 : Bool}
    (waits : ∀ ch, timedWait ⟨code, wait0, wait1⟩ ch = decide ((s.chan ch).drain ≠ .none))
    (running : ∃ ch, (s.chan ch).drain ≠ .none)
    (kind : (code = 17#8 ∧ ∀ ch, (s.chan ch).drain ≠ .abort) ∨
      ((code = 18#8 ∨ code = 20#8) ∧ ∀ ch, (s.chan ch).drain ≠ .disable)) :
    ChannelsLaw (s.startTimed code wait0 wait1) := by
  unfold State.startTimed
  refine (channelsLaw_iff _).2 ⟨by simpa only [State.chan_with_cu] using laws, (timedLaw_iff _).2 ⟨nofun, ?_⟩⟩
  rintro _ ⟨⟩
  simp only [State.chan_with_cu]
  obtain ⟨ch, draining⟩ := running
  exact ⟨waits, ⟨ch, by rw [waits]; exact decide_eq_true draining⟩, kind⟩

/-- One channel's drain awaited. -/
theorem wait_one (code : BitVec 8) (ch ch' : Chan) :
    timedWait ⟨code, decide (ch = .ch0), decide (ch = .ch1)⟩ ch' = decide (ch' = ch) := by
  cases ch <;> cases ch' <;> rfl

/-! ### CHANNEL_ABORT and SOFT_RESET -/

/-- R117, R118: a channel between frames, cut short. -/
theorem law_cutShort {s : State} {ch : Chan} (base : BaseLaw (s.chan ch)) (frame : (s.chan ch).frame = none)
    (enabled : (s.chan ch).enabled = decide ((s.chan ch).state ≠ .off)) :
    ChannelLaw (((s.cutUnit ch .aborted .aborted).abortDrainEnd ch).chan ch) := by
  obtain ⟨-, d, same, freed⟩ := cutUnit_freed s ch .aborted .aborted
  have base' := same.base base
  rw [chan_abortDrainEnd, freed]
  refine law_of_drained ⟨base'.weight, base'.turn, base'.divider, base'.sched, base'.stopped, base'.offPass⟩ rfl ?_ ?_
  · rw [same.rest]
    exact frame
  · rw [same.rest]
    exact enabled

/-- What a channel's abort leaves: the other channel and the Command Unit; the drain runs or has ended. -/
structure Aborting (s : State) (ch : Chan) (r : State × Bool) : Prop where
  cu : r.1.cu = s.cu
  others : SameBus (s.chan (other ch)) (r.1.chan (other ch))
  law : ChannelLaw (r.1.chan ch)
  drain : (r.1.chan ch).drain = if r.2 then .none else .abort

theorem aborting_of_cut {s t : State} {ch : Chan} (around : Around s t ch) (base : BaseLaw (t.chan ch))
    (frame : (t.chan ch).frame = none) (enabled : (t.chan ch).enabled = decide ((t.chan ch).state ≠ .off)) :
    Aborting s ch ((t.cutUnit ch .aborted .aborted).abortDrainEnd ch, true) := by
  have cut := around.trans (cutUnit_freed t ch .aborted .aborted).1
  exact ⟨(cu_abortDrainEnd ..).trans cut.cu, by rw [other_abortDrainEnd]; exact cut.others,
    law_cutShort base frame enabled, by rw [chan_abortDrainEnd]; rfl⟩

/-- R117: an abort begins on a channel that does not drain. -/
theorem aborting_beginAbort {s : State} {ch : Chan} (law : ChannelLaw (s.chan ch)) (idle : (s.chan ch).drain = .none) :
    Aborting s ch (s.beginAbort ch) := by
  have enabled := enabled_of_law law (by simp [idle])
  unfold State.beginAbort
  split
  · next f flying =>
    have held : (s.chan ch).held.isSome = true := by
      have frames := congrArg Option.isSome law.frame
      simpa [flying] using frames.symm
    have some_unit : (s.chan ch).held ≠ none := by
      rintro none_held
      simp [none_held] at held
    have fits := (stateFits_iff _).1 law.state
    simp only [some_unit, idle, held, reduceCtorEq, false_and, and_false, false_or, true_and, or_false] at fits
    obtain ⟨busy, enabled'⟩ := fits
    split
    · next started =>
      have around := around_modChan s ch (f := fun c => { c with frame := c.frame }) fun _ => rfl
      refine ⟨State.modChan_cu .., ?_, ?_, by rw [State.chan_modChan_self]; rfl⟩
      · rw [State.chan_modChan_of_ne _ _ _ _ (other_ne ch)]
        exact .refl _
      · rw [State.chan_modChan_self]
        refine channelLaw_of_base ⟨law.weight, law.turn, law.divider, law.sched, by simpa [busy] using law.stopped, nofun⟩
          law.frame ((stateFits_iff _).2 ?_)
        simp [held, enabled', flying, started]
    · refine aborting_of_cut (around_modChan s ch (f := fun c => { c with frame := none }) fun _ => rfl) ?_ ?_ ?_
      · rw [State.chan_modChan_self]
        exact ⟨law.weight, law.turn, law.divider, law.sched, law.stopped, law.offPass⟩
      · rw [State.chan_modChan_self]
      · rw [State.chan_modChan_self]
        exact enabled
  · next between => exact aborting_of_cut ⟨rfl, rfl, .refl _⟩ (baseLaw_of_law law) between enabled

theorem laws_abortChannel {s : State} (h : ChannelsLaw s) (timed : s.cu.timed = none) (ch : Chan) :
    ChannelsLaw (s.abortChannel ch).1 := by
  have idle := drain_of_idle h timed
  obtain ⟨cu, others, law, drain⟩ := aborting_beginAbort (channelLaw_chan h ch) (idle ch)
  have laws : ∀ ch', ChannelLaw ((s.beginAbort ch).1.chan ch') := fun ch' => by
    by_cases here : ch' = ch
    · rw [here]
      exact law
    · rw [eq_other_of_ne here]
      exact others.law (channelLaw_chan h _)
  have drains : ∀ ch', ((s.beginAbort ch).1.chan ch').drain =
      if ch' = ch ∧ (s.beginAbort ch).2 = false then .abort else .none := fun ch' => by
    by_cases here : ch' = ch
    · rw [here, drain]
      cases (s.beginAbort ch).2 <;> simp
    · rw [if_neg (fun both => here both.1), eq_other_of_ne here, others.rest]
      exact idle _
  unfold State.abortChannel
  dsimp only
  split
  · next ended => exact laws_notice (laws_of_idle laws (by rw [cu, timed]) fun ch' => by simp [drains, ended]) ch
  · next runs =>
    rw [Bool.not_eq_true] at runs
    refine laws_startTimed laws (fun ch' => ?_) ⟨ch, by simp [drains, runs]⟩ (.inr ⟨.inl rfl, fun ch' => ?_⟩)
    · rw [wait_one, drains]
      by_cases here : ch' = ch <;> simp [here, runs]
    · rw [drains]
      split <;> decide

theorem laws_takeSoftReset {s : State} (h : ChannelsLaw s) (timed : s.cu.timed = none) :
    ChannelsLaw (takeSoftReset s).1 := by
  have idle := drain_of_idle h timed
  have begun : ∀ ch, ChannelLaw ((s.startTimed 20#8 true true).chan ch) ∧
      ((s.startTimed 20#8 true true).chan ch).drain = .none := fun ch => by
    rw [State.startTimed, State.chan_with_cu]
    exact ⟨channelLaw_chan h ch, idle ch⟩
  have first := aborting_beginAbort (begun .ch0).1 (begun .ch0).2
  have waiting : ChannelLaw (((s.startTimed 20#8 true true).beginAbort .ch0).1.chan .ch1) ∧
      (((s.startTimed 20#8 true true).beginAbort .ch0).1.chan .ch1).drain = .none :=
    ⟨first.others.law (begun .ch1).1, by rw [show Chan.ch1 = other .ch0 from rfl, first.others.rest]; exact (begun .ch1).2⟩
  have second := aborting_beginAbort waiting.1 waiting.2
  have laws : ∀ ch, ChannelLaw ((((s.startTimed 20#8 true true).beginAbort .ch0).1.beginAbort .ch1).1.chan ch) := by
    rintro (_ | _)
    · exact second.others.law first.law
    · exact second.law
  have drain0 : ((((s.startTimed 20#8 true true).beginAbort .ch0).1.beginAbort .ch1).1.chan .ch0).drain =
      if ((s.startTimed 20#8 true true).beginAbort .ch0).2 then .none else .abort :=
    (congrArg Channel.drain second.others.rest).trans first.drain
  unfold takeSoftReset
  dsimp only
  split
  · exact laws_notice (laws_notice (laws_dynamicReset (fun ch => baseLaw_of_law (laws ch)) rfl) .ch0) .ch1
  · next runs =>
    have drain1 := second.drain
    refine laws_startTimed laws ?_ ?_ (.inr ⟨.inr rfl, ?_⟩)
    · rintro (_ | _)
      · rw [drain0]
        cases ((s.startTimed 20#8 true true).beginAbort .ch0).2 <;> rfl
      · rw [drain1]
        cases (((s.startTimed 20#8 true true).beginAbort .ch0).1.beginAbort .ch1).2 <;> rfl
    · rw [Bool.and_eq_true, not_and_or, Bool.not_eq_true, Bool.not_eq_true] at runs
      obtain runs | runs := runs
      · exact ⟨.ch0, by simp [drain0, runs]⟩
      · exact ⟨.ch1, by simp [drain1, runs]⟩
    · rintro (_ | _)
      · rw [drain0]
        split <;> decide
      · rw [drain1]
        split <;> decide

/-! ### CHANNEL_ENABLE and CHANNEL_RESTART -/

theorem laws_enableOn {s : State} (h : ChannelsLaw s) (ch : Chan) : ChannelsLaw (s.enableOn ch).1 := by
  unfold State.enableOn
  split
  · next off =>
    exact laws_notice (laws_modChan h ch (f := Channel.turnOn) (fun _ => rfl) (law_turnOn (channelLaw_chan h ch) off)) ch
  · exact h

theorem laws_enableOff {s : State} (h : ChannelsLaw s) (timed : s.cu.timed = none) (ch : Chan) :
    ChannelsLaw (s.enableOff ch).1 := by
  have idle := drain_of_idle h timed
  have law := channelLaw_chan h ch
  have fits := (stateFits_iff _).1 law.state
  have off : (s.chan ch).held = none → ChannelsLaw (s.modChan ch Channel.turnOff) := fun free =>
    laws_modChan h ch (f := Channel.turnOff) (fun _ => rfl) (law_turnOff law free (idle ch))
  unfold State.enableOff
  dsimp only
  split
  · exact h
  · next halted =>
    simp only [halted, reduceCtorEq, false_and, true_and, false_or] at fits
    exact off fits.1
  · exact h
  · next not_off not_halted not_draining =>
    split
    · next free =>
      simp only [Bool.and_eq_true, Option.isNone_iff_eq_none] at free
      exact off free.1
    · next granted =>
      have frames := congrArg Option.isSome law.frame
      simp only [Option.isSome_map] at frames
      have held : (s.chan ch).held.isSome = true := by
        cases unit : (s.chan ch).held with
        | some u => rfl
        | none => simp_all
      have here : (s.modChan ch fun c => { c with enabled := false, state := .draining, drain := .disable }).chan ch =
          { s.chan ch with enabled := false, state := .draining, drain := .disable } := State.chan_modChan_self ..
      have drains : ∀ ch', ((s.modChan ch fun c =>
          { c with enabled := false, state := .draining, drain := .disable }).chan ch').drain =
          if ch' = ch then .disable else .none := fun ch' => by
        split
        · next same => rw [same, here]
        · next apart =>
          rw [State.chan_modChan_of_ne _ _ _ _ apart]
          exact idle ch'
      refine laws_startTimed (fun ch' => ?_) (fun ch' => ?_) ⟨ch, by simp⟩ (.inl ⟨rfl, fun ch' => ?_⟩)
      · by_cases same : ch' = ch
        · rw [same, here]
          refine channelLaw_of_base
            ⟨law.weight, law.turn, law.divider, law.sched,
              iff_of_false (fun stopped => not_off (law.stopped.1 stopped)) nofun, nofun⟩
            law.frame ((stateFits_iff _).2 (by simp [held]))
        · rw [State.chan_modChan_of_ne _ _ _ _ same]
          exact channelLaw_chan h ch'
      · rw [wait_one, drains]
        by_cases same : ch' = ch <;> simp [same]
      · rw [drains]
        split <;> decide

theorem laws_restartChannel {s : State} (h : ChannelsLaw s) (level : Bool) (ch : Chan) :
    ChannelsLaw (s.restartChannel level ch).1 := by
  unfold State.restartChannel
  split
  · exact h
  · next halted =>
    have noted := laws_noted h ch level
    dsimp only
    split
    · refine laws_notice (laws_modChan noted ch (f := fun c => { c with state := .idle, established := 0 })
        (fun _ => rfl) (law_restarted (channelLaw_chan noted ch) ?_)) ch
      rw [State.chan_modChan_self]
      exact Decidable.not_not.1 halted
    · exact noted

/-! ### Timers -/

theorem schedLaw_startTimer {c : Scheduler} (h : SchedLaw c) (none_waits : c.pendingExpiry = false) :
    SchedLaw c.startTimer :=
  ⟨h.interval, h.length, h.position, by simp [Scheduler.startTimer, none_waits], h.pending⟩

theorem schedLaw_startPass {c : Scheduler} (h : SchedLaw c) : SchedLaw c.startPass := by
  refine ⟨h.interval, h.length, ?_, by simp [Scheduler.startPass], nofun⟩
  rintro _ ⟨⟩
  exact Nat.zero_le _

/-- R72: the pass-interval timer of a channel expires. -/
theorem laws_passIntervalExpiry {s : State} (h : ChannelsLaw s) (ch : Chan) : ChannelsLaw (s.passIntervalExpiry ch) := by
  have law := channelLaw_chan h ch
  unfold State.passIntervalExpiry
  dsimp only
  split
  · next due =>
    have on : (s.chan ch).state ≠ .off := fun off => by simpa [due] using law.stopped.2 off
    have waiting : (s.chan ch).sched.pendingExpiry = false := by simpa [due] using law.sched.expired
    split
    · next opened =>
      exact laws_modSched h ch ⟨law.sched.interval, law.sched.length, law.sched.position, by simp, fun _ => opened⟩
        (by simp [due]) fun off => absurd off on
    · split
      · exact laws_modSched h ch (schedLaw_startTimer law.sched waiting) (by simp [Scheduler.startTimer, due])
          fun off => absurd off on
      · exact laws_notice (laws_modSched h ch (schedLaw_startPass law.sched) (by simp [Scheduler.startPass, due])
          fun off => absurd off on) ch
  · exact h

theorem schedLaw_tick {c : Scheduler} (h : SchedLaw c) : SchedLaw c.tick := by
  refine ⟨h.interval, h.length, h.position, ?_, h.pending⟩
  refine Iff.trans ?_ h.expired
  cases timer : c.passTimer <;> simp [Scheduler.tick, PassTimer.tick, timer]

theorem stopped_tick (c : Scheduler) : c.tick.passTimer = .stopped ↔ c.passTimer = .stopped := by
  cases timer : c.passTimer <;> simp [Scheduler.tick, PassTimer.tick, timer]

theorem laws_tickTimers {s : State} (h : ChannelsLaw s) : ChannelsLaw s.tickTimers :=
  ⟨law_of_sched h.ch0 (schedLaw_tick h.ch0.sched) (stopped_tick _) h.ch0.offPass,
    law_of_sched h.ch1 (schedLaw_tick h.ch1.sched) (stopped_tick _) h.ch1.offPass,
    timedLaw_of_same h.timed rfl (by rintro (_ | _) <;> rfl)⟩

theorem queuesOnly_pushUrgents (ports : List PortId) : QueuesOnly fun c => ports.foldl Scheduler.pushUrgent c := by
  induction ports with
  | nil => exact fun _ => rfl
  | cons p ports ih =>
    intro c
    have pushed : c.pushUrgent p = { c with urgent := (c.pushUrgent p).urgent } := by
      unfold Scheduler.pushUrgent
      split <;> rfl
    have others := ih (c.pushUrgent p)
    dsimp only at others
    simp only [List.foldl_cons]
    rw [others, pushed]

/-- R80: what joins the urgent queues leaves the rest of a scheduler. -/
theorem recorded_sample (s : State) (ch : Chan) (newly : BitVec 4) : Recorded s (s.sample ch newly) :=
  recorded_modSched (queuesOnly_pushUrgents _) s ch

theorem laws_tick {s : State} (h : ChannelsLaw s) (atn : BitVec 4) : ChannelsLaw (s.tick atn) := by
  have noticed : ∀ {u before : State} (ch : Chan), ChannelsLaw u → ChannelsLaw (u.noticeIfGrown before ch) := by
    intro u before ch law
    unfold State.noticeIfGrown
    split
    · exact laws_notice law ch
    · exact law
  have stored : ∀ (u : State) (a : Attention), ChannelsLaw u → ChannelsLaw { u with att := a } := fun _ _ law =>
    laws_of_same law rfl rfl rfl
  unfold State.tick State.sampleAttention
  dsimp only
  have sampled := ((recorded_sample s.tickTimers .ch0 (~~~atn &&& ~~~s.tickTimers.att.levels)).trans
    (recorded_sample _ .ch1 (~~~atn &&& ~~~s.tickTimers.att.levels))).laws (laws_tickTimers h)
  refine noticed .ch1 (noticed .ch0 ?_)
  exact stored _ _ sampled

/-- R58, R62: a due timer of a port. -/
theorem laws_probeRetryExpiry {s : State} (h : ChannelsLaw s) (p : PortId) : ChannelsLaw (s.probeRetryExpiry p) := by
  unfold State.probeRetryExpiry
  split
  · exact laws_noticeOf ((((recorded_modPort s p _).trans (recorded_markStale _ p)).trans
      (recorded_schedOf (queuesOnly_pushProbe p .probe) _ _)).laws h) _
  · exact h

theorem laws_lostCheckExpiry {s : State} (h : ChannelsLaw s) (p : PortId) : ChannelsLaw (s.lostCheckExpiry p) := by
  unfold State.lostCheckExpiry
  split
  · exact laws_noticeOf ((((recorded_modPort s p _).trans (recorded_markStale _ p)).trans
      (recorded_schedOf (queuesOnly_pushProbe p .presence) _ _)).laws h) _
  · exact h

/-! ### The rows -/

theorem laws_takeBind {s : State} (h : ChannelsLaw s) : ChannelsLaw (takeBind s).1 := by
  unfold takeBind
  split
  · exact h
  · next p b _ =>
    split
    · exact h
    · split
      · exact h
      · split
        · exact h
        · exact laws_notice ((recorded_transition s p .probing (some .host) fun r => r.bind b).laws h) _

theorem laws_reprobe {s : State} (h : ChannelsLaw s) (p : PortId) (why : Reason) : ChannelsLaw (s.reprobe p why) :=
  laws_noticeOf ((recorded_transition s p .probing (some why) fun r => { r with attemptCount := 0 }).laws h) _

theorem laws_offer {s : State} (h : ChannelsLaw s) (t : HostTxn) (more : Bool) : ChannelsLaw (s.offer t more).1 := by
  unfold State.offer
  dsimp only
  split
  · exact h
  · split
    · exact h
    · split
      · exact h
      · have law := channelLaw_chan h t.channel
        have placed : ChannelsLaw (s.modChan t.channel fun c => c.place t more) :=
          laws_modChan h t.channel (f := fun c => c.place t more) (fun _ => rfl)
            (channelLaw_of_base ⟨law.weight, law.turn, law.divider, law.sched, law.stopped, law.offPass⟩ law.frame law.state)
        have counted : ∀ (u : State) (x : HostTable), ChannelsLaw u → ChannelsLaw { u with ht := x } := fun _ _ law =>
          laws_of_same law rfl rfl rfl
        exact laws_notice (counted _ _ placed) t.channel

theorem laws_takePost {s : State} (h : ChannelsLaw s) : ChannelsLaw (takePost s).1 := by
  unfold takePost
  split
  · unfold State.postRawRead
    split
    · exact h
    · exact laws_offer h ..
  · unfold State.postRawWrite
    split
    · exact h
    · exact laws_offer h ..
  · unfold State.postItemRead
    split
    · split
      · exact h
      · split
        · exact h
        · exact laws_offer h ..
    · exact h
  · exact h

/-- What the rows do to the laws of the channels. -/
theorem rules_channelsLaw : Rules ChannelsLaw where
  apart := Apart.laws
  bind := fun _ => laws_takeBind
  unbind := fun {s} _ h => by
    refine onNamedPort_keeps h fun p => ?_
    split
    · exact h
    · exact (recorded_transition s p _ _ PortRec.unbind).laws h
  suspend := fun {s} _ h => by
    refine onNamedPort_keeps h fun p => ?_
    split
    · exact h
    · exact (recorded_transition s p _ _ id).laws h
  resume := fun {s} _ h => by
    refine onNamedPort_keeps h fun p => ?_
    split
    · exact h
    · exact laws_reprobe h p .resumed
  retry := fun {s} _ h => by
    refine onNamedPort_keeps h fun p => ?_
    split
    · exact h
    · exact laws_reprobe h p .retry
  scanEntry := fun {s} _ h => by
    unfold takeSetScanEntry
    split
    · next ch i p _ _ _ =>
      have law := (channelLaw_chan h ch).sched
      exact laws_configured h ch (f := fun c => { c with scanList := c.scanList.set i p }) law.interval law.length
        (fun _ => rfl) (fun _ => rfl) fun _ => rfl
    · exact h
  scanLength := fun {s} _ h => by
    unfold takeSetScanLength
    split
    · exact h
    · next ch _ =>
      split
      · next short =>
        exact laws_configured h ch (f := fun c => { c with scanLength := s.argIndex }) (channelLaw_chan h ch).sched.interval
          short (fun _ => rfl) (fun _ => rfl) fun _ => rfl
      · exact h
  profileLoad := fun {s} _ h => by
    obtain same | ⟨n, f, -, loaded⟩ := takeProfileLoad_cases s
    · rwa [same]
    · rw [loaded]
      exact laws_of_same h rfl rfl rfl
  post := fun _ => laws_takePost
  takeCompletion := fun {s} _ h => by
    unfold takeTakeCompletion
    split
    · exact h
    · exact laws_of_same h rfl rfl rfl
  enable := fun timed h => by
    refine onNamedChannel_keeps h fun ch => ?_
    split
    · exact laws_enableOn h ch
    · exact laws_enableOff h timed ch
  abort := fun timed h => onNamedChannel_keeps h (laws_abortChannel h timed)
  restart := fun level _ h => onNamedChannel_keeps h (laws_restartChannel h level)
  softReset := fun timed h => laws_takeSoftReset h timed
  divider := fun {s} ch v h => by
    have law := channelLaw_chan h ch
    unfold State.takeDivider
    split
    · next range =>
      exact laws_modChan h ch (f := fun c => { c with divider := v.toNat }) (fun _ => rfl) (channelLaw_of_base
        ⟨law.weight, law.turn, range, law.sched, law.stopped, law.offPass⟩ law.frame law.state)
    · exact h
  passInterval := fun {s} ch v h => by
    unfold State.takePassInterval
    split
    · exact h
    · next some_ticks =>
      exact laws_configured h ch (f := fun c => { c with passInterval := v.toNat })
        ⟨Nat.one_le_iff_ne_zero.2 some_ticks, Nat.le_of_lt_succ v.isLt⟩ (channelLaw_chan h ch).sched.length
        (fun _ => rfl) (fun _ => rfl) fun _ => rfl
  hostWeight := fun {s} ch v h => by
    have law := channelLaw_chan h ch
    unfold State.takeHostWeight
    split
    · next range =>
      exact laws_modChan h ch (f := fun c => { c with hostWeight := v.toNat, hostTurn := min c.hostTurn v.toNat })
        (fun _ => rfl) (channelLaw_of_base ⟨range, Nat.min_le_right _ _, law.divider, law.sched, law.stopped, law.offPass⟩
          law.frame law.state)
    · exact h
  channelStatus := fun {s} ch v h => by
    unfold State.takeChannelStatus
    split
    · have law := (channelLaw_chan h ch).sched
      exact laws_configured h ch (f := fun c => { c with overrun := false }) law.interval law.length
        (fun _ => rfl) (fun _ => rfl) fun _ => rfl
    · exact h
  tick := fun atn h => laws_tick h atn
  probeRetryExpiry := fun p h => laws_probeRetryExpiry h p
  lostCheckExpiry := fun p h => laws_lostCheckExpiry h p
  passIntervalExpiry := fun ch h => laws_passIntervalExpiry h ch
  idleLineCheck := fun ch level h => laws_takeIdleLineCheck h ch level
  frameEnd := fun ch turnaround data h => laws_takeFrameEnd h ch turnaround data
  powerOn := laws_powerOn

/-- Settles O57, along the rows (`rules_channelsLaw`). -/
theorem everyStepKeepsTheChannelsLaw : Obligations.EveryStepKeepsTheChannelsLaw :=
  fun _ _ law taken => rules_channelsLaw.step taken law

end Sys2Proof.Laws
end

section
/-! PROOFS. The commands of the Port Table and the writes of its parameters, each answer with the whole state it leaves
(R48 to R52, R58, R62, R66, R67). -/
namespace Sys2Proof.Laws

open Sys2Proof.Machine Sys2Proof.Safety

/-! ### Rows that are taken -/

/-- R183: a command that its owner takes, with the answer shown. -/
theorem exec_taken {i : Instr} {s : State} {hi code : BitVec 8} {d : Delivery} {t : State} {a : Answer}
    (row : exec i s = s.live fun s => s.command hi code d) (ready : Ready s) (taken : d (delivered s hi code) = (t, a)) :
    exec i s = .next (t.showResult code a) := by
  rw [exec_command row ready.rstn, command_ready ready, taken]

/-- R186: a checked write that its owner takes, with the answer shown. -/
theorem exec_checked {i : Instr} {s : State} {addr : BitVec 7} {d : Delivery} {t : State} {a : Answer}
    (row : exec i s = s.live fun s => s.checkedWrite addr d) (ready : Ready s) (taken : d s = (t, a)) :
    exec i s = .next (t.showResult (0x80#8 ||| addr.setWidth 8) a) := by
  rw [exec_running (fun s => s.checkedWrite addr d) row ready.rstn, checkedWrite_ready ready, taken]

/-! ### BIND's arguments -/

theorem finOf_of_lt {n k : Nat} (h : k < n) : finOf n k = some ⟨k, h⟩ := by simp [finOf, h]

/-- R48 (a): an argument out of its range. -/
theorem bindArgs_of_out_of_range {s : State}
    (h : 23 < s.argTarget ∨ 1 < s.argChannel ∨ 31 < s.argDevice ∨ 7 < s.argRegister) : s.bindArgs = none := by
  unfold State.bindArgs
  split
  · next hp hc hd hf =>
    obtain h | h | h | h := h
    · simp [finOf_eq_none (Nat.succ_le_of_lt h)] at hp
    · simp [chanOf_eq_none h] at hc
    · simp [finOf_eq_none (Nat.succ_le_of_lt h)] at hd
    · simp [finOf_eq_none (Nat.succ_le_of_lt h)] at hf
  · rfl

/-- R48 (a): the port and the binding that arguments in range name. -/
theorem bindArgs_of_named {s : State} {p : PortId} {ch : Chan} {n : Fin 8} (hp : s.argTarget = p.val)
    (hc : s.argChannel = chanNumber ch) (hd : s.argDevice ≤ 31) (hn : s.argRegister = n.val) :
    s.bindArgs = some (p,
      { channel := ch, device := BitVec.ofFin ⟨s.argDevice, Nat.lt_succ_of_le hd⟩, profile := n
        expected := if s.argIdentityPresent then some s.argIdentity else none
        ignoreRevision := s.argIgnoreRevision }) := by
  simp [State.bindArgs, hp, hc, hn, finOf_of_lt (Nat.lt_succ_of_le hd)]

/-! ### The answers of BIND -/

theorem bound_eq_true_iff (r : PortRec) : r.bound = true ↔ r.state ≠ .unbound := by
  rw [← Bool.not_eq_false, ne_eq, not_iff_not]
  exact bound_eq_false_iff r

theorem portAt_isSome_iff (t : PortTable) (ch : Chan) (dev : BusAddr) :
    (t.portAt ch dev).isSome = true ↔
      ∃ q : PortId, t.ports[q].bound = true ∧ t.ports[q].binding.map (fun b => (b.channel, b.device)) = some (ch, dev) := by
  simp [PortTable.portAt, List.find?_isSome, allPorts]

section
variable {s : State} {p : PortId} {b : Binding} (args : s.bindArgs = some (p, b))
include args

theorem takeBind_of_bound (h : (s.port p).state ≠ .unbound) : takeBind s = (s, .refuse .badState) := by
  simp [takeBind, args, (bound_eq_true_iff _).2 h]

theorem takeBind_of_empty (h : (s.port p).state = .unbound) (empty : s.profile b.profile = none) :
    takeBind s = (s, .badArg 11) := by
  simp [takeBind, args, (bound_eq_false_iff _).2 h, empty]

theorem takeBind_of_occupied (h : (s.port p).state = .unbound) (installed : (s.profile b.profile).isSome = true)
    (occupied : (s.pt.portAt b.channel b.device).isSome = true) : takeBind s = (s, .refuse .conflict) := by
  simp [takeBind, args, (bound_eq_false_iff _).2 h, Option.isNone_eq_false_iff.2 installed, occupied]

theorem takeBind_of_free (h : (s.port p).state = .unbound) (installed : (s.profile b.profile).isSome = true)
    (free : (s.pt.portAt b.channel b.device).isSome = false) :
    takeBind s = ((s.transition p .probing (some .host) fun r => r.bind b).notice b.channel, .done) := by
  simp [takeBind, args, (bound_eq_false_iff _).2 h, Option.isNone_eq_false_iff.2 installed, Option.isSome_eq_false_iff.1 free]
end

/-! ### The answers of UNBIND, SUSPEND, RESUME and RETRY -/

section
variable {s : State} {p : PortId} (named : s.argTarget = p.val)
include named

theorem takeUnbind_of_unbound (h : (s.port p).state = .unbound) : takeUnbind s = (s, .refuse .badState) := by
  simp [takeUnbind, onNamedPort_of_eq named, (bound_eq_false_iff _).2 h]

theorem takeUnbind_of_bound (h : (s.port p).state ≠ .unbound) :
    takeUnbind s = (s.transition p .unbound (some .host) PortRec.unbind, .done) := by
  simp [takeUnbind, onNamedPort_of_eq named, (bound_eq_true_iff _).2 h]

theorem takeSuspend_of_still (h : (s.port p).state = .unbound ∨ (s.port p).state = .failed ∨ (s.port p).state = .suspended) :
    takeSuspend s = (s, .refuse .badState) := by
  obtain h | h | h := h <;> simp [takeSuspend, onNamedPort_of_eq named, h, PortState.suspendable]

theorem takeSuspend_of_supervised
    (h : (s.port p).state = .probing ∨ (s.port p).state = .active ∨ (s.port p).state = .lost) :
    takeSuspend s = (s.transition p .suspended (some .host) id, .done) := by
  obtain h | h | h := h <;> simp [takeSuspend, onNamedPort_of_eq named, h, PortState.suspendable]

theorem takeResume_of_not_suspended (h : (s.port p).state ≠ .suspended) : takeResume s = (s, .refuse .badState) := by
  simp [takeResume, onNamedPort_of_eq named, h]

theorem takeResume_of_suspended (h : (s.port p).state = .suspended) : takeResume s = (s.reprobe p .resumed, .done) := by
  simp [takeResume, onNamedPort_of_eq named, h]

theorem takeRetry_of_not_failed (h : (s.port p).state ≠ .failed) : takeRetry s = (s, .refuse .badState) := by
  simp [takeRetry, onNamedPort_of_eq named, h]

theorem takeRetry_of_failed (h : (s.port p).state = .failed) : takeRetry s = (s.reprobe p .retry, .done) := by
  simp [takeRetry, onNamedPort_of_eq named, h]
end

/-- Settles O14: each refusal, with what the Command Unit shows. -/
theorem refusedPortCommandsChangeNoRecord : Obligations.RefusedPortCommandsChangeNoRecord := by
  intro hi s ready
  refine ⟨fun i code row above => ?_, fun out => ?_, fun p named => ⟨fun unbound => ⟨?_, ?_⟩, fun still => ?_,
    fun still => ?_, fun still => ?_⟩, fun p ch n named channel device profile => ⟨fun bound => ?_, fun unbound empty => ?_,
    fun unbound installed occupied => ?_⟩⟩
  · simp only [List.mem_cons, List.not_mem_nil, or_false, Prod.mk.injEq] at row
    obtain ⟨rfl, rfl⟩ | ⟨rfl, rfl⟩ | ⟨rfl, rfl⟩ | ⟨rfl, rfl⟩ | ⟨rfl, rfl⟩ | ⟨rfl, rfl⟩ := row
    · exact exec_taken (d := takeUnbind) rfl ready (onNamedPort_of_gt above)
    · exact exec_taken (d := takeSuspend) rfl ready (onNamedPort_of_gt above)
    · exact exec_taken (d := takeResume) rfl ready (onNamedPort_of_gt above)
    · exact exec_taken (d := takeRetry) rfl ready (onNamedPort_of_gt above)
    · exact exec_taken (d := takeAck) rfl ready (onNamedPort_of_gt above)
    · exact exec_taken (d := takeSnapshot) rfl ready (onNamedPort_of_gt above)
  · have refused : takeBind (delivered s hi 1) = (delivered s hi 1, .badArg 0) := by
      simp [takeBind, bindArgs_of_out_of_range out]
    exact exec_taken rfl ready refused
  · exact exec_taken rfl ready (takeUnbind_of_unbound (s := delivered s hi 2) named unbound)
  · exact exec_taken rfl ready (takeAck_of_unbound (s := delivered s hi 6) named unbound)
  · exact exec_taken rfl ready (takeSuspend_of_still (s := delivered s hi 3) named still)
  · exact exec_taken rfl ready (takeResume_of_not_suspended (s := delivered s hi 4) named still)
  · exact exec_taken rfl ready (takeRetry_of_not_failed (s := delivered s hi 5) named still)
  all_goals have args := bindArgs_of_named (s := delivered s hi 1) named channel device profile
  · exact exec_taken rfl ready (takeBind_of_bound args bound)
  · exact exec_taken rfl ready (takeBind_of_empty args unbound empty)
  · obtain ⟨q, bound, place⟩ := occupied
    refine exec_taken rfl ready (takeBind_of_occupied args unbound installed ((portAt_isSome_iff _ _ _).2 ⟨q, bound, ?_⟩))
    obtain ⟨b, binding, same⟩ := Option.map_eq_some_iff.1 place
    obtain ⟨channel', device'⟩ := Prod.mk.injEq .. ▸ same
    refine Option.map_eq_some_iff.2 ⟨b, binding, Prod.ext channel' (BitVec.eq_of_toNat_eq ?_)⟩
    exact device'

/-! ### The states that they leave -/

/-- Settles O11: the transition to UNBOUND, written out. -/
theorem unbindEndsSupervision : Obligations.UnbindEndsSupervision := by
  intro hi s p ready named bound e
  rw [exec_taken rfl ready (takeUnbind_of_bound (s := delivered s hi 2) named bound),
    transition_leaves _ _ _ _ (by decide)]
  rfl

/-- Settles O12: the transition to SUSPENDED, written out. -/
theorem suspendFreezesTheRecord : Obligations.SuspendFreezesTheRecord := by
  intro hi s p ready named supervised e
  rw [exec_taken rfl ready (takeSuspend_of_supervised (s := delivered s hi 3) named supervised),
    transition_leaves _ _ _ _ (by decide)]
  rfl

theorem onChannel_of_binding {r : PortRec} {b : Binding} (h : r.binding = some b) (ch : Chan) :
    r.onChannel ch = decide (ch = b.channel) := by
  simp [PortRec.onChannel, h, eq_comm]

/-- R47: a port that stands in no queue enters PROBING: it joins the tail of the probe queue of its channel. -/
theorem entering_joins (c : Channel) (ch : Chan) {r r' : PortRec} {p : PortId} {b : Binding}
    (still : r.state = .unbound ∨ r.state = .suspended ∨ r.state = .failed) (bound : r'.binding = some b) :
    entering (leaving c ch r p) ch r' p .probing = joining c ch b.channel p .probe := by
  have same : withoutPort c.sched p r.state = c.sched := by
    obtain h | h | h := still <;> simp [withoutPort, h]
  simp [entering, leaving, joining, onChannel_of_binding bound, enter_eq, same]

/-- R47: the transition to PROBING of a port that stands in no queue. -/
theorem transition_joins {s : State} {p : PortId} (why : Option Reason) {eff : PortRec → PortRec} {b : Binding}
    (still : (s.port p).state = .unbound ∨ (s.port p).state = .suspended ∨ (s.port p).state = .failed)
    (bound : (eff (s.port p)).binding = some b) :
    s.transition p .probing why eff =
      let e := s.ev.take (.stateChange p (s.port p).state .probing why) s.stamp
      { s with
        ev := e.1
        pt := { s.pt with ports := s.pt.ports.set p (reported
          { eff (s.port p) with state := .probing, reason := why, probeRetry := none, lostCheck := none } e.2) }
        ch0 := joining s.ch0 .ch0 b.channel p .probe
        ch1 := joining s.ch1 .ch1 b.channel p .probe } := by
  rw [transition_eq]
  simp only [reduceCtorEq, if_false]
  rw [entering_joins (b := b) _ _ still (by exact bound), entering_joins (b := b) _ _ still (by exact bound)]

/-- R58, R62: what a due timer of a bound port does: the record changes, the port is asked for at the tail of the probe
queue of its channel, and its arbiter takes a notice. -/
theorem queued_of_due {s : State} {p : PortId} {b : Binding} {r : PortRec} (bound : r.binding = some b) (k : ProbeKind) :
    (let u := (s.setPort p r).markStale p
    (u.schedOf (u.port p).binding fun c => c.pushProbe p k).noticeOf (u.port p).binding) = State.notice
      { s with
        pt := { s.pt with ports := s.pt.ports.set p r }
        ch0 := joining s.ch0 .ch0 b.channel p k
        ch1 := joining s.ch1 .ch1 b.channel p k } b.channel := by
  have kept : (((s.setPort p r).markStale p).port p).binding = some b := by
    rw [setPort_markStale]
    simp [State.port, bound]
  dsimp only
  rw [kept, setPort_markStale, schedOf_eq]
  simp only [pushProbe_eq, Option.map_some, Option.some.injEq, joining, staying, eq_comm (a := b.channel), State.noticeOf]

/-- R58: the expiry of a due probe-retry timer. -/
theorem probeRetryExpiry_of_due {s : State} {p : PortId} {b : Binding} (bound : (s.port p).binding = some b)
    (due : (s.port p).probeRetry = some 0) :
    s.probeRetryExpiry p = State.notice
      { s with
        pt := { s.pt with ports := s.pt.ports.set p { s.port p with probeRetry := none } }
        ch0 := joining s.ch0 .ch0 b.channel p .probe
        ch1 := joining s.ch1 .ch1 b.channel p .probe } b.channel :=
  (if_pos (decide_eq_true due)).trans (queued_of_due (r := { s.port p with probeRetry := none }) bound .probe)

/-- R62: the expiry of a due lost-check timer. -/
theorem lostCheckExpiry_of_due {s : State} {p : PortId} {b : Binding} (bound : (s.port p).binding = some b)
    (due : (s.port p).lostCheck = some 0) :
    s.lostCheckExpiry p = State.notice
      { s with
        pt := { s.pt with ports := s.pt.ports.set p { s.port p with lostCheck := none } }
        ch0 := joining s.ch0 .ch0 b.channel p .presence
        ch1 := joining s.ch1 .ch1 b.channel p .presence } b.channel :=
  (if_pos (decide_eq_true due)).trans (queued_of_due (r := { s.port p with lostCheck := none }) bound .presence)

/-- R51, R52: the state that RESUME and RETRY leave, with their answer shown. -/
theorem reprobe_showResult {s : State} {p : PortId} (why : Reason) (source : BitVec 8) {b : Binding}
    (still : (s.port p).state = .unbound ∨ (s.port p).state = .suspended ∨ (s.port p).state = .failed)
    (bound : (s.port p).binding = some b) :
    (s.reprobe p why).showResult source .done = State.notice
      (State.showResult
        (let e := s.ev.take (.stateChange p (s.port p).state .probing (some why)) s.stamp
        { s with
          ev := e.1
          pt := { s.pt with ports := s.pt.ports.set p (reported
            { s.port p with
              state := .probing, reason := some why, attemptCount := 0, probeRetry := none, lostCheck := none } e.2) }
          ch0 := joining s.ch0 .ch0 b.channel p .probe
          ch1 := joining s.ch1 .ch1 b.channel p .probe }) source .done) b.channel := by
  rw [State.reprobe, bound, State.noticeOf, showResult_notice,
    transition_joins (b := b) (some why) (eff := fun r => { r with attemptCount := 0 }) still bound]

/-- Settles O13: each transition or expiry, written out, and the notice that follows. -/
theorem portsJoinTheProbeQueue : Obligations.PortsJoinTheProbeQueue := by
  refine ⟨fun hi s p b ready named channel device profile expected ignore unbound installed free => ?_,
    fun hi s p b i from' why code ready named bound was row => ?_, fun s p running => ⟨fun b bound due => ?_,
    fun b bound due => ?_, fun quiet => ?_, fun quiet => ?_⟩⟩
  · intro e
    have args : (delivered s hi 1#8).bindArgs = some (p, b) := by
      rw [delivered_bindArgs, bindArgs_of_named named channel (device ▸ Nat.le_of_lt_succ b.device.isLt) profile, ← expected,
        ← ignore]
      simp only [device]
      rfl
    have place : (s.pt.portAt b.channel b.device).isSome = false := by
      rw [← Bool.not_eq_true, portAt_isSome_iff]
      rintro ⟨q, bound, there⟩
      exact free q bound there
    refine ⟨_, exec_taken rfl ready (takeBind_of_free args unbound installed place), ?_⟩
    rw [showResult_notice, transition_joins (s := delivered s hi 1#8) (eff := fun r => r.bind b) (b := b) _ (.inl unbound) rfl,
      show ((delivered s hi 1#8).port p).state = .unbound from unbound]
    exact notice_decided ..
  · intro e
    obtain ⟨rfl, rfl, rfl, rfl⟩ | ⟨rfl, rfl, rfl, rfl⟩ := row
    · refine ⟨_, exec_taken rfl ready (takeResume_of_suspended (s := delivered s hi 4#8) named was), ?_⟩
      rw [reprobe_showResult (s := delivered s hi 4#8) _ _ (.inr (.inl was)) bound]
      rw [show ((delivered s hi 4#8).port p).state = .suspended from was]
      exact notice_decided ..
    · refine ⟨_, exec_taken rfl ready (takeRetry_of_failed (s := delivered s hi 5#8) named was), ?_⟩
      rw [reprobe_showResult (s := delivered s hi 5#8) _ _ (.inr (.inr was)) bound]
      rw [show ((delivered s hi 5#8).port p).state = .failed from was]
      exact notice_decided ..
  · refine ⟨_, exec_running (fun s => s.probeRetryExpiry p) rfl running, ?_⟩
    rw [probeRetryExpiry_of_due bound due]
    exact notice_decided ..
  · refine ⟨_, exec_running (fun s => s.lostCheckExpiry p) rfl running, ?_⟩
    rw [lostCheckExpiry_of_due bound due]
    exact notice_decided ..
  · rw [exec_running (fun s => s.probeRetryExpiry p) rfl running]
    simp [State.probeRetryExpiry, timerDue, quiet]
  · rw [exec_running (fun s => s.lostCheckExpiry p) rfl running]
    simp [State.lostCheckExpiry, timerDue, quiet]

/-! ### Limits and intervals -/

/-- R66: a count of some port above a value. -/
theorem any_above_iff (s : State) (count : PortRec → Nat) (n : Nat) :
    (allPorts.any fun p => decide (n < count (s.port p))) = true ↔ ∃ p : PortId, n < count (s.port p) := by
  simp [allPorts]

theorem takeMissLimit_of_out_of_range {s : State} {v : Word} (h : v.toNat = 0 ∨ 15 < v.toNat) :
    takeMissLimit v s = (s, .badArg 0) := by
  have out : limitInRange v = false := by
    rw [← Bool.not_eq_true, limitInRange_iff]
    omega
  simp [takeMissLimit, out]

theorem takeAttemptLimit_of_out_of_range {s : State} {v : Word} (h : v.toNat = 0 ∨ 15 < v.toNat) :
    takeAttemptLimit v s = (s, .badArg 0) := by
  have out : limitInRange v = false := by
    rw [← Bool.not_eq_true, limitInRange_iff]
    omega
  simp [takeAttemptLimit, out]

section
variable {s : State} {v : Word} (range : 1 ≤ v.toNat ∧ v.toNat ≤ 15)
include range

theorem takeMissLimit_of_above (h : ∃ p : PortId, v.toNat < (s.port p).missCount) :
    takeMissLimit v s = (s, .refuse .badState) := by
  simp only [takeMissLimit, (limitInRange_iff v).2 range, (any_above_iff s PortRec.missCount v.toNat).2 h]
  rfl

theorem takeMissLimit_of_within (h : ∀ p : PortId, (s.port p).missCount ≤ v.toNat) :
    takeMissLimit v s = ({ s with pt := { s.pt with missLimit := v.toNat } }, .done) := by
  have none_above : (allPorts.any fun p => decide (v.toNat < (s.port p).missCount)) = false := by
    rw [← Bool.not_eq_true, any_above_iff s PortRec.missCount]
    rintro ⟨p, above⟩
    exact Nat.not_lt.2 (h p) above
  simp only [takeMissLimit, (limitInRange_iff v).2 range, none_above]
  rfl

theorem takeAttemptLimit_of_above (h : ∃ p : PortId, v.toNat < (s.port p).attemptCount) :
    takeAttemptLimit v s = (s, .refuse .badState) := by
  simp only [takeAttemptLimit, (limitInRange_iff v).2 range, (any_above_iff s PortRec.attemptCount v.toNat).2 h]
  rfl

theorem takeAttemptLimit_of_within (h : ∀ p : PortId, (s.port p).attemptCount ≤ v.toNat) :
    takeAttemptLimit v s = ({ s with pt := { s.pt with attemptLimit := v.toNat } }, .done) := by
  have none_above : (allPorts.any fun p => decide (v.toNat < (s.port p).attemptCount)) = false := by
    rw [← Bool.not_eq_true, any_above_iff s PortRec.attemptCount]
    rintro ⟨p, above⟩
    exact Nat.not_lt.2 (h p) above
  simp only [takeAttemptLimit, (limitInRange_iff v).2 range, none_above]
  rfl
end

/-- Settles O17: the ranges, the counts above a limit, and the values taken. -/
theorem timingParameterWrites : Obligations.TimingParameterWrites := by
  intro v s ready
  refine ⟨fun out => ⟨?_, ?_⟩, fun low high => ⟨fun above => ?_, fun within => ?_, fun above => ?_, fun within => ?_⟩,
    fun zero => ⟨?_, ?_⟩, fun some_ticks => ⟨?_, ?_⟩⟩
  · exact exec_checked rfl ready (takeMissLimit_of_out_of_range out)
  · exact exec_checked rfl ready (takeAttemptLimit_of_out_of_range out)
  · exact exec_checked rfl ready (takeMissLimit_of_above ⟨low, high⟩ above)
  · exact exec_checked rfl ready (takeMissLimit_of_within ⟨low, high⟩ within)
  · exact exec_checked rfl ready (takeAttemptLimit_of_above ⟨low, high⟩ above)
  · exact exec_checked rfl ready (takeAttemptLimit_of_within ⟨low, high⟩ within)
  · exact exec_checked (d := takeRetryInterval v) rfl ready (if_pos zero)
  · exact exec_checked (d := takeLostInterval v) rfl ready (if_pos zero)
  · exact exec_checked (d := takeRetryInterval v) rfl ready (if_neg (Nat.ne_of_gt some_ticks))
  · exact exec_checked (d := takeLostInterval v) rfl ready (if_neg (Nat.ne_of_gt some_ticks))

end Sys2Proof.Laws
end

section
/-! PROOFS. The notification group, the attention group, the channel groups and the indicator group: what each write, command
and expiry does (R72, R76, R79, R102, R108, R148 to R170). -/
namespace Sys2Proof.Laws

open Sys2Proof.Machine Sys2Proof.Safety

/-! ### Causes, enables and the holdoff timer -/

theorem and_not_eq_ite (a b : Bool) : (a && !b) = if b then false else a := by cases b <;> simp

theorem takeThreshold_of_out_of_range {v : Word} {s : State} (h : v.toNat = 0 ∨ 64 < v.toNat) :
    takeThreshold v s = (s, .badArg 0) := if_neg (by omega)

theorem expire_of_due {e : EventBlock} (h : e.timer = .running 0) : e.expire = { e with timer := .expired } := if_pos h

/-- R154: a cause is true and enabled. -/
theorem interruptActive_iff (s : State) :
    s.interruptActive = true ↔
      (s.ev.evq = true ∧ s.ev.enables.evq = true) ∨ (s.ht.cmpl = true ∧ s.ev.enables.cmpl = true) ∨
        (s.ev.ovf = true ∧ s.ev.enables.ovf = true) ∨ (s.ev.chf = true ∧ s.ev.enables.chf = true) := by
  simp [State.interruptActive, or_assoc]

/-- Settles O49. -/
theorem causesEnablesAndIrqn : Obligations.CausesEnablesAndIrqn := by
  refine ⟨fun v s running => ⟨?_, exec_running (fun s => { s with ev := s.ev.setEnables v }) rfl running⟩,
    fun v s ready => ⟨fun low high => ?_, fun out => ?_, ?_⟩, fun s running => ⟨fun due => ?_, fun quiet => ?_⟩,
    fun s => ⟨?_, ?_, ?_⟩⟩
  · rw [exec_running (fun s => { s with ev := s.ev.clearCauses v }) rfl running]
    simp only [EventBlock.clearCauses, and_not_eq_ite]
  · exact exec_checked (d := takeThreshold v) rfl ready (if_pos ⟨low, high⟩)
  · exact exec_checked rfl ready (takeThreshold_of_out_of_range out)
  · exact exec_checked (d := takeHoldoff v) rfl ready rfl
  · rw [exec_running (fun s => { s with ev := s.ev.expire }) rfl running, expire_of_due due]
  · rw [exec_running (fun s => { s with ev := s.ev.expire }) rfl running]
    simp [EventBlock.expire, quiet]
  · simp [EventBlock.evq]
  · simp [HostTable.cmpl]
  · rw [← interruptActive_iff]
    simp [State.irqn]

/-! ### Attention sets and the overrun flag -/

theorem getLsbD_highLow (v : Word) (low : Word) (p : Fin 24) :
    (v.extractLsb' 0 8 ++ low).getLsbD p.val = if p.val < 16 then low.getLsbD p.val else v.getLsbD (p.val - 16) := by
  have bound : p.val < 24 := p.isLt
  rw [BitVec.getLsbD_append]
  split
  · rfl
  · simp only [BitVec.getLsbD_extractLsb', Nat.zero_add]
    rw [decide_eq_true (by omega : p.val - 16 < 8), Bool.true_and]

/-- Settles O33. -/
theorem attentionSetAndOverrunWrites : Obligations.AttentionSetAndOverrunWrites := by
  intro v s running
  refine ⟨fun line => exec_running (fun s => { s with att := s.att.writeLow v }) rfl running,
    fun line => ⟨_, exec_running (fun s => { s with att := s.att.writeHigh line v }) rfl running, fun p => ?_,
      fun m apart => ?_⟩, fun ch => ⟨fun clear => ?_, fun keep => ?_⟩⟩
  · rw [← getLsbD_highLow]
    simp
  · exact Vector.getElem_set_ne _ _ fun same => apart (Fin.ext same.symm)
  · rw [exec_running (fun s => s.takeChannelStatus ch v) rfl running]
    simp only [State.takeChannelStatus, clear, if_true]
    rfl
  · rw [exec_running (fun s => s.takeChannelStatus ch v) rfl running]
    simp [State.takeChannelStatus, keep]

/-! ### Channel groups -/

/-- R121: a word of a channel's group. -/
theorem readWord_channelAddress (s : State) (ch : Chan) (n : Fin 6) :
    s.readWord (channelAddress ch n.val) = (s.chan ch).word n.val := by
  cases ch <;> fin_cases n <;> rfl

theorem exec_writeDivider {ch : Chan} {v : Word} {s t : State} {a : Answer} (ready : Ready s)
    (taken : s.takeDivider ch v = (t, a)) :
    exec (.writeDivider ch v) s = .next (t.showResult (0x80#8 ||| (channelAddress ch 0).setWidth 8) a) :=
  exec_checked (d := fun s => s.takeDivider ch v) rfl ready taken

theorem exec_writePassInterval {ch : Chan} {v : Word} {s t : State} {a : Answer} (ready : Ready s)
    (taken : s.takePassInterval ch v = (t, a)) :
    exec (.writePassInterval ch v) s = .next (t.showResult (0x80#8 ||| (channelAddress ch 1).setWidth 8) a) :=
  exec_checked (d := fun s => s.takePassInterval ch v) rfl ready taken

theorem exec_writeHostWeight {ch : Chan} {v : Word} {s t : State} {a : Answer} (ready : Ready s)
    (taken : s.takeHostWeight ch v = (t, a)) :
    exec (.writeHostWeight ch v) s = .next (t.showResult (0x80#8 ||| (channelAddress ch 2).setWidth 8) a) :=
  exec_checked (d := fun s => s.takeHostWeight ch v) rfl ready taken

/-- A channel changed, with the answer of a checked write shown. -/
theorem modChan_checkedShown (s : State) (ch : Chan) (f : Channel → Channel) (addr : BitVec 7) :
    (s.modChan ch f).showResult (0x80#8 ||| addr.setWidth 8) .done =
      State.setChan { s with cu := checkedShown s.cu addr .done } ch (f (s.chan ch)) := by
  cases ch <;> rfl

/-- What a channel's word reads once the channel has been written. -/
theorem readWord_written (s : State) (ch : Chan) (c : Channel) (n : Fin 6) :
    (s.setChan ch c).readWord (channelAddress ch n.val) = c.word n.val := by
  rw [readWord_channelAddress, State.chan_setChan_self]

/-- Settles O36. -/
theorem channelConfigurationWrites : Obligations.ChannelConfigurationWrites := by
  intro ch v s ready c ok no
  have shows : ∀ (n : Fin 6) (c' : Channel), (ok n.val c').readWord (channelAddress ch n.val) = c'.word n.val :=
    fun n c' => readWord_written ..
  have kept : BitVec.ofNat 16 v.toNat = v := BitVec.ofNat_toNat .. |>.trans (BitVec.setWidth_eq v)
  refine ⟨fun low high => ⟨?_, (shows 0 _).trans kept⟩, fun out => ?_, fun some_ticks => ⟨?_, (shows 1 _).trans kept⟩,
    fun zero => ?_, fun low high => ⟨?_, (shows 2 _).trans kept⟩, fun out => ?_⟩
  · rw [exec_writeDivider ready (if_pos ⟨low, high⟩), modChan_checkedShown]
  · exact exec_writeDivider ready (if_neg (by omega))
  · rw [exec_writePassInterval ready (if_neg (by omega)), State.modSched, modChan_checkedShown]
  · exact exec_writePassInterval ready (if_pos zero)
  · have least : min c.hostTurn v.toNat = if v.toNat < c.hostTurn then v.toNat else c.hostTurn := by
      split <;> omega
    rw [exec_writeHostWeight ready (if_pos ⟨low, high⟩), modChan_checkedShown, least]
  · exact exec_writeHostWeight ready (if_neg (by omega))

/-! ### The indicator group -/

theorem conditionOf_code (c : Condition) : conditionOf c.code = some c := by cases c <;> rfl

theorem conditionOf_eq_none {n : Nat} (h : 11 < n) : conditionOf n = none := List.getElem?_eq_none h

theorem patternOf_code (k : PatternKind) : patternOf k.code = some k := by cases k <;> rfl

theorem patternOf_eq_none {n : Nat} (h : 5 < n) : patternOf n = none := List.getElem?_eq_none h

theorem speedOf_code (c : SpeedCode) : speedOf c.code = c := by cases c <;> rfl

/-- R181: a pattern field in its range. -/
theorem patternField_of_code {v : Word} {low : Nat} {k : PatternKind} {n : Fin 4} (kind : bits v low 3 = k.code)
    (slot : bits v (low + 3) 2 = n.val) : patternField v low = some ⟨k, n⟩ := by
  simp only [patternField, kind, patternOf_code, Option.map_some, slot]

theorem patternField_eq_none {v : Word} {low : Nat} (h : 5 < bits v low 3) : patternField v low = none := by
  simp [patternField, patternOf_eq_none h]

/-- R158: a word of the indexed record that is refused. -/
theorem takeIndicatorRecord_of_none {s : State} {n : Fin 3} {v : Word}
    (h : s.ie.records[s.ie.index].writeWord n v = none) : takeIndicatorRecord n v s = (s, .badArg 0) := by
  simp only [takeIndicatorRecord, h]

/-- R158: a word of the indexed record that is taken. -/
theorem takeIndicatorRecord_of_some {s : State} {n : Fin 3} {v : Word} {r : IndicatorRec}
    (h : s.ie.records[s.ie.index].writeWord n v = some r) :
    takeIndicatorRecord n v s = ({ s with ie := { s.ie with records := s.ie.records.set s.ie.index r } }, .done) := by
  simp only [takeIndicatorRecord, h]

theorem chainLength_iff (n : Nat) : (n % 8 = 0 ∧ 8 ≤ n ∧ n ≤ 48) ↔ n ∈ [8, 16, 24, 32, 40, 48] := by
  simp only [List.mem_cons, List.not_mem_nil, or_false]
  omega

/-- Settles O50. -/
theorem indicatorGroupWrites : Obligations.IndicatorGroupWrites := by
  intro v s ready r no put
  refine ⟨fun i index => ?_, fun above => ?_, fun c p condition port => ?_, fun out => ?_, fun c bound speed => ?_,
    fun unbound => ?_, fun a b m n kind slot kind' slot' => ?_, fun out => ?_, fun taken => ?_, fun out => ?_,
    fun low high => ?_, fun out => ?_⟩
  · have taken : takeIndicatorIndex v s = ({ s with ie := { s.ie with index := i } }, .done) := by
      simp [takeIndicatorIndex, index]
    exact exec_checked rfl ready taken
  · have refused : takeIndicatorIndex v s = (s, .badArg 0) := by
      simp [takeIndicatorIndex, finOf_eq_none (Nat.succ_le_of_lt above)]
    exact exec_checked rfl ready refused
  · exact exec_checked rfl ready (takeIndicatorRecord_of_some (n := 0)
      (r := { r with condition := c, port := p, activeHigh := !bit v 9 })
      (by simp [IndicatorRec.writeWord, condition, conditionOf_code, port, r]))
  · refine exec_checked rfl ready (takeIndicatorRecord_of_none (n := 0) ?_)
    obtain out | out := out
    · simp [IndicatorRec.writeWord, conditionOf_eq_none out]
    · cases condition : conditionOf (bits v 0 4) <;>
        simp [IndicatorRec.writeWord, condition, finOf_eq_none (Nat.succ_le_of_lt out)]
  · exact exec_checked rfl ready (takeIndicatorRecord_of_some (n := 1)
      (r := { r with
        speed := c, states := ⟨bit v 3, bit v 4, bit v 5, bit v 6, bit v 7⟩, channel := if bit v 8 then .ch1 else .ch0 })
      (by simp [IndicatorRec.writeWord, stateSetOf, bound, speed, speedOf_code, r]))
  · exact exec_checked rfl ready (takeIndicatorRecord_of_none (n := 1)
      (by simp [IndicatorRec.writeWord, stateSetOf, unbound]))
  · exact exec_checked rfl ready (takeIndicatorRecord_of_some (n := 2)
      (r := { r with whenTrue := ⟨a, m⟩, whenFalse := ⟨b, n⟩ })
      (by simp [IndicatorRec.writeWord, patternField_of_code kind slot, patternField_of_code kind' slot', r]))
  · refine exec_checked rfl ready (takeIndicatorRecord_of_none (n := 2) ?_)
    obtain out | out := out
    · simp [IndicatorRec.writeWord, patternField_eq_none out]
    · cases first : patternField v 0 <;> simp [IndicatorRec.writeWord, first, patternField_eq_none out]
  · exact exec_checked (d := takeChainLength v) rfl ready (if_pos ((chainLength_iff _).2 taken))
  · exact exec_checked (d := takeChainLength v) rfl ready (if_neg fun range => out ((chainLength_iff _).1 range))
  · exact exec_checked (d := takeFlashWidth v) rfl ready (if_pos ⟨low, high⟩)
  · exact exec_checked (d := takeFlashWidth v) rfl ready (if_neg (by omega))

/-! ### Overrides -/

theorem takeOverride_of_out_of_range {s : State} (h : 47 < s.argTarget ∨ 5 < s.argPattern) :
    takeOverride s = (s, .badArg 0) := by
  obtain h | h := h
  · simp [takeOverride, finOf_eq_none (Nat.succ_le_of_lt h)]
  · cases named : finOf 48 s.argTarget <;> simp [takeOverride, named, patternOf_eq_none h]

theorem takeOverride_of_named {s : State} {i : IndicatorId} {k : PatternKind} (named : s.argTarget = i.val)
    (kind : s.argPattern = k.code) :
    takeOverride s =
      ({ s with ie := s.ie.modRecord i fun r => { r with override := some (.of ⟨k, s.argSlot⟩ (s.arg 2).toNat) } }, .done) := by
  simp [takeOverride, named, kind, patternOf_code]

theorem takeCancelOverride_of_gt {s : State} (h : 47 < s.argTarget) : takeCancelOverride s = (s, .badArg 0) := by
  simp [takeCancelOverride, finOf_eq_none (Nat.succ_le_of_lt h)]

theorem takeCancelOverride_of_none {s : State} {i : IndicatorId} (named : s.argTarget = i.val)
    (absent : s.ie.records[i].override = none) : takeCancelOverride s = (s, .refuse .empty) := by
  simp_all [takeCancelOverride]

theorem takeCancelOverride_of_some {s : State} {i : IndicatorId} (named : s.argTarget = i.val)
    (present : s.ie.records[i].override ≠ none) :
    takeCancelOverride s = ({ s with ie := s.ie.modRecord i fun r => { r with override := none } }, .done) := by
  simp_all [takeCancelOverride]

/-- A record of the engine as it was. -/
theorem modRecord_of_same {e : IndicatorEngine} {i : IndicatorId} {f : IndicatorRec → IndicatorRec}
    (h : f e.records[i] = e.records[i]) : e.modRecord i f = e := by
  have same : e.records.set i e.records[i] = e.records := Vector.set_getElem_self ..
  rw [IndicatorEngine.modRecord, h, same]

/-- Settles O51. -/
theorem overridesAreSetAndRemoved : Obligations.OverridesAreSetAndRemoved := by
  refine ⟨fun hi s ready => ⟨fun out => ?_, fun above => ?_, fun i named => ⟨fun k kind => ?_, fun absent => ?_,
    fun present => ?_⟩⟩, fun i s running => ⟨fun o present due => ?_, fun quiet => ?_⟩⟩
  · exact exec_taken rfl ready (takeOverride_of_out_of_range (s := delivered s hi 14) out)
  · exact exec_taken rfl ready (takeCancelOverride_of_gt (s := delivered s hi 15) above)
  · exact exec_taken rfl ready (takeOverride_of_named (s := delivered s hi 14) named kind)
  · exact exec_taken rfl ready (takeCancelOverride_of_none (s := delivered s hi 15) named absent)
  · exact exec_taken rfl ready (takeCancelOverride_of_some (s := delivered s hi 15) named present)
  · rw [exec_running (fun s => { s with ie := s.ie.modRecord i IndicatorRec.overrideExpire }) rfl running]
    simp only [IndicatorEngine.modRecord, IndicatorRec.overrideExpire, present, timerDue, due, decide_true, if_true]
  · rw [exec_running (fun s => { s with ie := s.ie.modRecord i IndicatorRec.overrideExpire }) rfl running,
      modRecord_of_same]
    unfold IndicatorRec.overrideExpire
    split
    · next o present => rw [timerDue, decide_eq_false (quiet o present)]; rfl
    · rfl

/-! ### Rate slots -/

theorem takeSetRate_of_out_of_range {s : State}
    (h : 3 < s.argTarget ∨ (s.arg 2).toNat = 0 ∨ 255 < (s.arg 2).toNat ∨ 1 < s.argMode) :
    takeSetRate s = (s, .badArg 0) := by
  unfold takeSetRate
  split
  · rfl
  · next n named =>
    dsimp only
    split
    · next range =>
      obtain above | mode : 3 < s.argTarget ∨ 1 < s.argMode := by omega
      · simp [finOf_eq_none (Nat.succ_le_of_lt above)] at named
      · split
        · omega
        · omega
        · rfl
    · rfl

theorem takeSetRate_of_named {s : State} {n : Fin 4} (named : s.argTarget = n.val)
    (range : 1 ≤ (s.arg 2).toNat ∧ (s.arg 2).toNat ≤ 255) :
    (s.argMode = 0 →
      takeSetRate s = ({ s with ie := s.ie.modSlot n fun t => t.defer (s.arg 2).toNat }, .done)) ∧
    (s.argMode = 1 →
      takeSetRate s = ({ s with ie := s.ie.modSlot n fun _ => .restarted (s.arg 2).toNat }, .done)) := by
  refine ⟨fun mode => ?_, fun mode => ?_⟩ <;> simp only [takeSetRate, named, finOf_val, if_pos range, mode]

/-- Settles O52. -/
theorem rateSlotsDeferRestartAndToggle : Obligations.RateSlotsDeferRestartAndToggle := by
  refine ⟨fun hi s ready => ⟨fun out => ⟨?_, ?_⟩, fun n named low high => ⟨fun mode => ?_, fun mode => ?_⟩⟩,
    fun n s running => ⟨fun quiet => ?_, fun due h half => ?_⟩⟩
  · exact exec_taken rfl ready (takeSetRate_of_out_of_range (s := delivered s hi 16) out)
  · exact exec_taken rfl ready (takeSetRate_of_out_of_range (s := delivered s hi 16) out)
  · exact exec_taken rfl ready ((takeSetRate_of_named (s := delivered s hi 16) named ⟨low, high⟩).1 mode)
  · exact exec_taken rfl ready ((takeSetRate_of_named (s := delivered s hi 16) named ⟨low, high⟩).2 mode)
  · have same : s.ie.slots.set n s.ie.slots[n] = s.ie.slots := Vector.set_getElem_self ..
    rw [exec_running (fun s => { s with ie := s.ie.modSlot n RateSlot.expire }) rfl running]
    simp only [IndicatorEngine.modSlot, RateSlot.expire, if_neg quiet, same]
  · rw [exec_running (fun s => { s with ie := s.ie.modSlot n RateSlot.expire }) rfl running]
    simp only [IndicatorEngine.modSlot, RateSlot.expire, if_pos due, RateSlot.toggle, half]

/-! ### Refreshes and flash machines -/

/-- R159: the conditions of a port's record. -/
theorem judged_of_port {s : State} {r : IndicatorRec} (none : r.condition ≠ .none) (always : r.condition ≠ .always)
    (halted : r.condition ≠ .channelHalted) (events : r.condition ≠ .eventsPending) :
    s.judged r = ((s.port r.port).bound && r.portCondition (s.port r.port)) := by
  cases condition : r.condition <;> simp_all [State.judged]

/-- R159: membership in a state set. -/
theorem mem_stateSet_iff (t : StateSet) (x : PortState) :
    t.mem x = true ↔ (x = .probing ∧ t.probing = true ∨ x = .active ∧ t.active = true ∨ x = .lost ∧ t.lost = true ∨
      x = .suspended ∧ t.suspended = true ∨ x = .failed ∧ t.failed = true) := by
  cases x <;> simp [StateSet.mem]

theorem bound_of_mem {t : StateSet} {r : PortRec} (h : t.mem r.state = true) : r.bound = true := by
  rw [bound_eq_true_iff]
  rintro unbound
  simp [unbound, StateSet.mem] at h

theorem lit_eq_litUnder (e : IndicatorEngine) (p : Pattern) (port : PortId) : e.lit p port = litUnder e p port := by
  cases kind : p.kind <;> simp [IndicatorEngine.lit, litUnder, kind]

/-- R160: the level output for an indicator. -/
theorem level_eq (s : State) (r : IndicatorRec) : s.level r = (litUnder s.ie (s.followed r) r.port == r.activeHigh) := by
  rw [State.level, lit_eq_litUnder]
  cases r.activeHigh <;> simp

theorem levels_getElem? (s : State) {k : IndicatorId} (h : k.val < s.ie.chainLength) :
    s.levels[k.val]? = some (s.level s.ie.records[k]) := by
  simp [State.levels, h]

/-- A flash machine of the engine changed. -/
theorem modFlash_of_eq {e : IndicatorEngine} {p : PortId} {f : FlashMachine → FlashMachine} {m : FlashMachine}
    (h : f e.flash[p] = m) : e.modFlash p f = { e with flash := e.flash.set p m } := by
  rw [IndicatorEngine.modFlash, h]

/-- A flash machine of the engine as it was. -/
theorem modFlash_of_same {e : IndicatorEngine} {p : PortId} {f : FlashMachine → FlashMachine}
    (h : f e.flash[p] = e.flash[p]) : e.modFlash p f = e := by
  have same : e.flash.set p e.flash[p] = e.flash := Vector.set_getElem_self ..
  rw [modFlash_of_eq h, same]

theorem flash_quiet {m : FlashMachine} (h : m.timer ≠ 0 ∨ m.phase = .idle) (width : Nat) : m.expire width = m := by
  obtain quiet | idle := h <;> simp [FlashMachine.expire, *]

/-- R165: the end of a pulse. -/
theorem flash_pulse {m : FlashMachine} (due : m.timer = 0) (pulse : m.phase = .pulse) (width : Nat) :
    m.expire width = { m with phase := .gap, timer := 10 * width } := by
  simp [FlashMachine.expire, due, pulse]

/-- R165: the end of a gap. -/
theorem flash_gap {m : FlashMachine} (due : m.timer = 0) (gap : m.phase = .gap) (width : Nat) :
    m.expire width = if m.pending then ⟨.pulse, 10 * width, false⟩ else ⟨.idle, 0, false⟩ := by
  simp [FlashMachine.expire, due, gap]

/-- Settles O53. -/
theorem refreshFixesTheLevels : Obligations.RefreshFixesTheLevels := by
  refine ⟨fun s running => ⟨fun quiet => ?_, fun due => ⟨s.levels, ?_, ?_, fun k inside => ?_⟩⟩, fun s r => ?_,
    fun p s running => ?_⟩
  · rw [exec_running State.refresh rfl running]
    simp [State.refresh, quiet]
  · rw [exec_running State.refresh rfl running]
    simp [State.refresh, due]
  · simp [State.levels]
  · rw [levels_getElem? s inside, level_eq]
    rfl
  · refine ⟨?_, ?_, ?_, ?_, ?_, ?_, ?_, ?_, ?_, ?_, ?_, ?_⟩ <;> intro condition
    case refine_10 =>
      rw [judged_of_port (by simp [condition]) (by simp [condition]) (by simp [condition]) (by simp [condition]),
        ← mem_stateSet_iff, Bool.and_eq_true]
      simp only [IndicatorRec.portCondition, condition]
      exact ⟨And.right, fun member => ⟨bound_of_mem member, member⟩⟩
    all_goals simp [State.judged, condition, IndicatorRec.portCondition]
  · intro m put
    have row := exec_running (s := s) (fun s => { s with ie := s.ie.modFlash p fun m => m.expire s.ie.flashWidth })
      (i := .flashPhaseExpiry p) rfl running
    refine ⟨fun quiet => ?_, fun due pulse => ?_, fun due gap pending => ?_, fun due gap none_pending => ?_⟩
    · rw [row, modFlash_of_same (flash_quiet quiet _)]
    · rw [row, modFlash_of_eq (flash_pulse due pulse _)]
    · rw [row, modFlash_of_eq ((flash_gap due gap _).trans (if_pos pending))]
    · rw [row, modFlash_of_eq ((flash_gap due gap _).trans (if_neg (by rw [none_pending]; decide)))]

end Sys2Proof.Laws
end

section
/-! PROOFS. The words of the window that pack fields (R180, R187, Figures 10-3 to 10-8): a field is read back where it is
placed; the three views; and the values after power-on. -/
namespace Sys2Proof.Laws

open Sys2Proof.Machine Sys2Proof.Safety

/-! ### Fields of a word -/

/-- The sum of the fields of a word, each at its place. -/
def total : List (Nat × Nat) → Nat
  | [] => 0
  | f :: l => f.1 * 2 ^ f.2 + total l

theorem word_eq_total (fields : List (Nat × Nat)) : word fields = BitVec.ofNat 16 (total fields) := by
  have sums : ∀ (l : List (Nat × Nat)) (n : Nat), l.foldl (fun acc f => acc + f.1 * 2 ^ f.2) n = n + total l := by
    intro l
    induction l with
    | nil => exact fun _ => rfl
    | cons f l ih =>
      intro n
      rw [List.foldl_cons, ih, total, Nat.add_assoc]
  rw [word, sums, Nat.zero_add]

/-- A field of a word, read at its place. -/
theorem bits_word {fields : List (Nat × Nat)} {low width v : Nat} (inside : low + width ≤ 16)
    (there : total fields / 2 ^ low % 2 ^ width = v) : bits (word fields) low width = v := by
  have split : 2 ^ low * 2 ^ width ∣ 2 ^ 16 := by
    rw [← pow_add]
    exact pow_dvd_pow 2 inside
  rw [← there, bits, word_eq_total, BitVec.toNat_ofNat, ← Nat.mod_mul_right_div_self, Nat.mod_mod_of_dvd _ split,
    Nat.mod_mul_right_div_self]

/-- A flag of a word, read at its place. -/
theorem bit_word {fields : List (Nat × Nat)} {n : Nat} {b : Bool} (inside : n < 16)
    (there : total fields / 2 ^ n % 2 = bitN b) : (word fields).getLsbD n = b := by
  rw [word_eq_total, BitVec.getLsbD_ofNat, decide_eq_true inside, Bool.true_and, Nat.testBit_eq_decide_div_mod_eq, there]
  cases b <;> rfl

/-- The low byte of a word, read as its bits. -/
theorem low_byte {w : Word} {v : BitVec 8} (h : bits w 0 8 = v.toNat) : w.extractLsb' 0 8 = v := by
  refine BitVec.eq_of_toNat_eq ?_
  rw [BitVec.extractLsb'_toNat, ← h, bits, Nat.shiftRight_eq_div_pow]

theorem bitN_true : bitN true = 1 := rfl

theorem bitN_lt (b : Bool) : bitN b < 2 := by cases b <;> decide

theorem high_low (v : BitVec 32) : highWord v ++ lowWord v = v := by
  simp only [highWord, lowWord]
  exact BitVec.extractLsb'_append_extractLsb'_eq_extractLsb' rfl |>.trans (by simp)

/-! ### Codes -/

theorem Item.index_lt (i : Item) : i.index < 8 := by cases i <;> decide
theorem reasonCode_lt (r : Option Reason) : reasonCode r < 16 := by
  cases r with
  | none => decide
  | some r => cases r <;> decide
theorem stateCode_lt (x : PortState) : x.code < 8 := by cases x <;> decide
theorem causeCode_lt (c : Cause) : c.code < 16 := by cases c <;> decide
theorem hostResultCode_lt (r : HostResult) : r.code < 16 := by cases r <;> decide
theorem chanNumber_lt (ch : Chan) : chanNumber ch < 2 := by cases ch <;> decide

theorem code_of_stateCodes {x : PortState × Nat} (h : x ∈ stateCodes) : x.1.code = x.2 := by
  revert x
  decide

theorem code_of_reasonCodes {x : Option Reason × Nat} (h : x ∈ reasonCodes) : reasonCode x.1 = x.2 := by
  revert x
  decide

theorem code_of_causeCodes {x : Cause × Nat} (h : x ∈ causeCodes) : x.1.code = x.2 := by
  revert x
  decide

theorem code_of_speedCodes {x : SpeedCode × Nat} (h : x ∈ speedCodes) : x.1.code = x.2 := by
  revert x
  decide

theorem code_of_hostResultCodes {x : HostResult × Nat} (h : x ∈ hostResultCodes) : x.1.code = x.2 := by
  revert x
  decide

/-- R180: the word of an item value shows it. -/
theorem showsValue_shownValue (v : Option ItemValue) : ShowsValue (shownValue v) v := by
  refine ⟨?_, ?_, ?_, ?_, ?_⟩
  · rintro rfl; rfl
  · rintro rfl; rfl
  · rintro rfl; rfl
  · rintro x speed rfl
    rw [← code_of_speedCodes speed]
    cases x.1 <;> rfl
  · rintro u rfl; rfl

/-! ### The completion view -/

/-- R180: the words 38H to 3BH of a filled completion view. -/
theorem readWord_completionView {t : State} {r : Completion} (view : t.ht.view = some r) :
    t.readWord 0x38 = r.word 0 ∧ t.readWord 0x39 = r.word 1 ∧ t.readWord 0x3A = r.word 2 ∧ t.readWord 0x3B = r.word 3 := by
  have shown : ∀ n : Fin 4, t.readWord (BitVec.ofNat 7 (0x38 + n.val)) = r.word n.val := by
    intro n
    have shown : t.readWord (BitVec.ofNat 7 (0x38 + n.val)) = viewWord t.ht.view fun c => c.word n.val := by
      fin_cases n <;> rfl
    rw [shown, view]
    rfl
  exact ⟨shown 0, shown 1, shown 2, shown 3⟩

/-- Figure 10-5: the fields of word 38H. -/
theorem completion_head (r : Completion) :
    (r.word 0).getLsbD 15 = true ∧ (r.word 0).extractLsb' 0 8 = r.txn.tag ∧ bits (r.word 0) 8 4 = r.result.code ∧
    bits (r.word 0) 12 2 = r.txn.op.kindCode ∧ (r.word 0).getLsbD 14 = r.data.isSome := by
  have tag : r.txn.tag.toNat < 256 := r.txn.tag.isLt
  have result := hostResultCode_lt r.result
  have data := bitN_lt r.data.isSome
  have kind : r.txn.op.kindCode < 3 := by cases r.txn.op <;> simp [HostOp.kindCode]
  have sum : total [(r.txn.tag.toNat, 0), (r.result.code, 8), (r.txn.op.kindCode, 12), (bitN r.data.isSome, 14), (1, 15)] =
      r.txn.tag.toNat + r.result.code * 256 + r.txn.op.kindCode * 4096 + bitN r.data.isSome * 16384 + 32768 := by
    simp [total, Nat.add_assoc]
  refine ⟨bit_word (by decide) ?_, low_byte (bits_word (by decide) ?_), bits_word (by decide) ?_, bits_word (by decide) ?_,
    bit_word (by decide) ?_⟩
  all_goals rw [sum]
  · rw [bitN_true]
    omega
  all_goals omega

/-- Figure 10-5: the fields of word 39H. -/
theorem placeWord_fields (t : HostTxn) :
    bits t.placeWord 0 1 = chanNumber t.channel ∧
    (∀ d reg : BusAddr, t.op = .rawRead d reg →
      bits t.placeWord 1 5 = d.toNat ∧ bits t.placeWord 6 5 = reg.toNat) ∧
    (∀ (d reg : BusAddr) (w : Word), t.op = .rawWrite d reg w →
      bits t.placeWord 1 5 = d.toNat ∧ bits t.placeWord 6 5 = reg.toNat) ∧
    ∀ (p : PortId) (i : Item) (n : Nat), t.op = .itemRead p i n →
      bits t.placeWord 1 5 = p.val ∧ bits t.placeWord 11 3 = i.index := by
  have channel := chanNumber_lt t.channel
  have raw : ∀ d reg : BusAddr, bits (word [(chanNumber t.channel, 0), (d.toNat, 1), (reg.toNat, 6)]) 0 1 =
        chanNumber t.channel ∧
      bits (word [(chanNumber t.channel, 0), (d.toNat, 1), (reg.toNat, 6)]) 1 5 = d.toNat ∧
      bits (word [(chanNumber t.channel, 0), (d.toNat, 1), (reg.toNat, 6)]) 6 5 = reg.toNat := by
    intro d reg
    have device : d.toNat < 32 := d.isLt
    have register : reg.toNat < 32 := reg.isLt
    have sum : total [(chanNumber t.channel, 0), (d.toNat, 1), (reg.toNat, 6)] =
        chanNumber t.channel + d.toNat * 2 + reg.toNat * 64 := by
      simp [total]
      omega
    refine ⟨bits_word (by decide) ?_, bits_word (by decide) ?_, bits_word (by decide) ?_⟩ <;> rw [sum] <;> omega
  have read : ∀ (p : PortId) (i : Item), bits (word [(chanNumber t.channel, 0), (p.val, 1), (i.index, 11)]) 0 1 =
        chanNumber t.channel ∧
      bits (word [(chanNumber t.channel, 0), (p.val, 1), (i.index, 11)]) 1 5 = p.val ∧
      bits (word [(chanNumber t.channel, 0), (p.val, 1), (i.index, 11)]) 11 3 = i.index := by
    intro p i
    have port : p.val < 24 := p.isLt
    have item := Item.index_lt i
    have sum : total [(chanNumber t.channel, 0), (p.val, 1), (i.index, 11)] =
        chanNumber t.channel + p.val * 2 + i.index * 2048 := by
      simp [total]
      omega
    refine ⟨bits_word (by decide) ?_, bits_word (by decide) ?_, bits_word (by decide) ?_⟩ <;> rw [sum] <;> omega
  refine ⟨?_, fun d reg op => ?_, fun d reg w op => ?_, fun p i n op => ?_⟩
  · cases op : t.op <;> simp only [HostTxn.placeWord, op]
    · exact (raw ..).1
    · exact (raw ..).1
    · exact (read ..).1
  all_goals simp only [HostTxn.placeWord, op]
  · exact (raw d reg).2
  · exact (raw d reg).2
  · exact (read p i).2

/-- Settles O46: the head record handed over, and its words. -/
theorem takeCompletionHandsOverTheOldest : Obligations.TakeCompletionHandsOverTheOldest := by
  intro hi s ready
  refine ⟨fun empty => ?_, fun r rest records => ?_⟩
  · have refused : takeTakeCompletion (delivered s hi 12) = (delivered s hi 12, .refuse .empty) := by
      simp [takeTakeCompletion, empty]
    exact exec_taken rfl ready refused
  · have taken : takeTakeCompletion (delivered s hi 12) =
        ({ delivered s hi 12 with ht := { completions := rest, outstanding := s.ht.outstanding - 1, view := some r } },
          .done) := by
      simp [takeTakeCompletion, records]
    obtain ⟨t, row, left⟩ : ∃ t, exec (.takeCompletion hi) s = .next t ∧ t = { s with
        cu := shown s.cu hi 12 .done 0 none
        ht := { completions := rest, outstanding := s.ht.outstanding - 1, view := some r } } :=
      ⟨_, exec_taken rfl ready taken, rfl⟩
    refine ⟨t, row, left, ?_⟩
    obtain ⟨w0, w1, w2, w3⟩ := readWord_completionView (t := t) (r := r) (by rw [left])
    obtain ⟨valid, tag, result, kind, data⟩ := completion_head r
    obtain ⟨channel, read, write, item⟩ := placeWord_fields r.txn
    rw [w0, w1, w2, w3]
    refine ⟨valid, tag, data, rfl, rfl, fun x code same => ?_, channel, fun d reg op => ?_, fun d reg w op => ?_,
      fun p i n op => ?_⟩
    · rw [result, ← code_of_hostResultCodes code, ← same]
    all_goals rw [op] at kind
    · exact ⟨kind, read d reg op⟩
    · exact ⟨kind, write d reg w op⟩
    · exact ⟨kind, item p i n op⟩

/-! ### The event view -/

/-- R180: the words 30H to 37H of a filled event view. -/
theorem readWord_eventView {t : State} {v : EventView} (view : t.ev.view = some v) :
    t.readWord 0x30 = v.word 0 ∧ t.readWord 0x31 = v.word 1 ∧ t.readWord 0x32 = v.word 2 ∧ t.readWord 0x33 = v.word 3 ∧
    t.readWord 0x34 = v.word 4 ∧ t.readWord 0x35 = v.word 5 ∧ t.readWord 0x36 = v.word 6 ∧ t.readWord 0x37 = v.word 7 := by
  have shown : ∀ n : Fin 8, t.readWord (BitVec.ofNat 7 (0x30 + n.val)) = v.word n.val := by
    intro n
    have shown : t.readWord (BitVec.ofNat 7 (0x30 + n.val)) = viewWord t.ev.view fun v => v.word n.val := by
      fin_cases n <;> rfl
    rw [shown, view]
    rfl
  exact ⟨shown 0, shown 1, shown 2, shown 3, shown 4, shown 5, shown 6, shown 7⟩

theorem subject_lt (b : EventBody) : b.subject < 24 := by
  cases b with
  | itemChange p => exact p.isLt
  | stateChange p => exact p.isLt
  | channelFault ch => exact (chanNumber_lt ch).trans (by decide)

theorem itemShown_lt (b : EventBody) : b.itemShown < 8 := by
  cases b with
  | itemChange p i => exact Item.index_lt i
  | _ => exact Nat.zero_lt_succ 7

theorem eventKind_lt (b : EventBody) : b.kindCode < 3 := by cases b <;> simp [EventBody.kindCode]

theorem whyCode_lt (b : EventBody) : b.whyCode < 16 := by
  cases b with
  | itemChange p i o n c => exact causeCode_lt c
  | stateChange p o n r => exact reasonCode_lt r
  | channelFault ch => exact Nat.zero_lt_succ 15

/-- Figure 10-5: the fields of word 30H. -/
theorem eventView_head (v : EventView) :
    (v.word 0).getLsbD 15 = true ∧ (v.word 0).getLsbD 14 = v.overflow ∧ bits (v.word 0) 0 5 = v.record.body.subject ∧
    bits (v.word 0) 8 3 = v.record.body.itemShown ∧ bits (v.word 0) 12 2 = v.record.body.kindCode := by
  have subject := subject_lt v.record.body
  have item := itemShown_lt v.record.body
  have kind := eventKind_lt v.record.body
  have overflow := bitN_lt v.overflow
  have sum : total [(v.record.body.subject, 0), (v.record.body.itemShown, 8), (v.record.body.kindCode, 12),
      (bitN v.overflow, 14), (1, 15)] = v.record.body.subject + v.record.body.itemShown * 256 +
        v.record.body.kindCode * 4096 + bitN v.overflow * 16384 + 32768 := by
    simp [total, Nat.add_assoc]
  refine ⟨bit_word (by decide) ?_, bit_word (by decide) ?_, bits_word (by decide) ?_, bits_word (by decide) ?_,
    bits_word (by decide) ?_⟩
  all_goals rw [sum]
  · rw [bitN_true]
    omega
  all_goals omega

/-- Figure 10-5: the fields of word 33H. -/
theorem eventView_why (v : EventView) :
    (v.word 3).getLsbD 0 = v.record.body.oldPresent ∧ (v.word 3).getLsbD 1 = v.record.body.newPresent ∧
    bits (v.word 3) 2 4 = v.record.body.whyCode ∧ (v.record.repeats ≤ 255 → bits (v.word 3) 8 8 = v.record.repeats) := by
  have why := whyCode_lt v.record.body
  have old := bitN_lt v.record.body.oldPresent
  have new := bitN_lt v.record.body.newPresent
  have sum : total [(bitN v.record.body.oldPresent, 0), (bitN v.record.body.newPresent, 1), (v.record.body.whyCode, 2),
      (v.record.repeats, 8)] = bitN v.record.body.oldPresent + bitN v.record.body.newPresent * 2 +
        v.record.body.whyCode * 4 + v.record.repeats * 256 := by
    simp [total, Nat.add_assoc]
  refine ⟨bit_word (by decide) ?_, bit_word (by decide) ?_, bits_word (by decide) ?_, fun counted =>
    bits_word (by decide) ?_⟩
  all_goals
    rw [sum]
    omega

/-- Figure 10-5: the words 31H and 32H. -/
theorem eventView_values {v : EventView} {b : EventBody} (body : v.record.body = b) :
    v.word 1 = b.oldShown ∧ v.word 2 = b.newShown := by
  subst body
  exact ⟨rfl, rfl⟩

/-- Settles O47: the head record handed over, and its words. -/
theorem popEventHandsOverTheOldest : Obligations.PopEventHandsOverTheOldest := by
  intro hi s ready
  refine ⟨fun empty => ?_, fun r rest queue => ?_⟩
  · have refused : takePopEvent (delivered s hi 13) = (delivered s hi 13, .refuse .empty) := by
      simp [takePopEvent, empty]
    exact exec_taken rfl ready refused
  · have taken : takePopEvent (delivered s hi 13) = ({ delivered s hi 13 with ev := s.ev.pop r rest }, .done) := by
      simp [takePopEvent, queue]
    have popped : s.ev.pop r rest = { s.ev with
        queue := rest, view := some ⟨r, rest.length, s.ev.overflow⟩, overflow := if rest = [] then false else s.ev.overflow
        timer := if rest = [] then .stopped else s.ev.timer } := by
      cases rest <;> simp [EventBlock.pop]
    obtain ⟨t, row, left⟩ : ∃ t, exec (.popEvent hi) s = .next t ∧ t = { s with
        cu := shown s.cu hi 13 .done 0 none
        ev := { s.ev with
          queue := rest, view := some ⟨r, rest.length, s.ev.overflow⟩
          overflow := if rest = [] then false else s.ev.overflow, timer := if rest = [] then .stopped else s.ev.timer } } :=
      ⟨_, exec_taken rfl ready taken, by rw [popped]; rfl⟩
    refine ⟨t, row, left, ?_⟩
    have view : t.ev.view = some ⟨r, rest.length, s.ev.overflow⟩ := by rw [left]
    obtain ⟨w0, w1, w2, w3, w4, w5, w6, w7⟩ := readWord_eventView view
    obtain ⟨valid, overflow, subject, item, kind⟩ := eventView_head ⟨r, rest.length, s.ev.overflow⟩
    obtain ⟨old, new, why, repeats⟩ := eventView_why ⟨r, rest.length, s.ev.overflow⟩
    rw [w0, w1, w2, w3, w4, w5, w6, w7]
    refine ⟨valid, overflow, rfl, rfl, rfl, fun _ => ?_, repeats, fun p i o n c body => ?_, fun p o n reason body => ?_,
      fun ch body => ?_⟩
    · simp [EventView.word, word]
    all_goals
      simp only [body] at subject item kind old new why
      obtain ⟨w1, w2⟩ := eventView_values (v := ⟨r, rest.length, s.ev.overflow⟩) body
      rw [w1, w2]
    · exact ⟨subject, item, kind, showsValue_shownValue o, showsValue_shownValue n, old, new, fun x code same => by
        rw [why, ← code_of_causeCodes code, ← same]; rfl⟩
    · have code : ∀ y : PortState, (BitVec.ofNat 16 y.code).toNat = y.code := by rintro (_ | _) <;> rfl
      exact ⟨subject, item, kind, fun x known => ⟨fun same => by
        rw [← code_of_stateCodes known, ← same]; exact code o, fun same => by
        rw [← code_of_stateCodes known, ← same]; exact code n⟩, old, new, fun x known same => by
        rw [why, ← code_of_reasonCodes known, ← same]; rfl⟩
    · exact ⟨subject, item, kind, rfl, rfl, why, old, new⟩

/-! ### The port view -/

/-- R180: the words 20H to 2FH of a filled port view. -/
theorem readWord_portView {t : State} {v : PortView} (view : t.pt.view = some v) (n : Fin 16) :
    t.readWord (BitVec.ofNat 7 (0x20 + n.val)) = v.word n.val := by
  have shown : t.readWord (BitVec.ofNat 7 (0x20 + n.val)) = viewWord t.pt.view fun v => v.word n.val := by
    fin_cases n <;> rfl
  rw [shown, view]
  rfl

/-- One bit per item, read at the item's number, in a word that holds two such sets. -/
theorem bit_itemBits (f g : Item → Bool) (i : Item) :
    (word [(itemBits f, 0), (itemBits g, 8)]).getLsbD i.index = f i ∧
    (word [(itemBits f, 0), (itemBits g, 8)]).getLsbD (8 + i.index) = g i := by
  have set : ∀ h : Item → Bool, itemBits h = bitN (h .link) + bitN (h .neg) * 2 + bitN (h .speed) * 4 +
      bitN (h .duplex) * 8 + bitN (h .rfault) * 16 + bitN (h .partner) * 32 + bitN (h .energy) * 64 +
        bitN (h .count) * 128 := fun h => by
    simp [itemBits, Item.all, Item.index]
  have lt : ∀ (h : Item → Bool) (i : Item), bitN (h i) < 2 := fun h i => bitN_lt _
  have sum : total [(itemBits f, 0), (itemBits g, 8)] = itemBits f + itemBits g * 256 := by simp [total]
  have f0 := lt f .link; have f1 := lt f .neg; have f2 := lt f .speed; have f3 := lt f .duplex
  have f4 := lt f .rfault; have f5 := lt f .partner; have f6 := lt f .energy; have f7 := lt f .count
  have g0 := lt g .link; have g1 := lt g .neg; have g2 := lt g .speed; have g3 := lt g .duplex
  have g4 := lt g .rfault; have g5 := lt g .partner; have g6 := lt g .energy; have g7 := lt g .count
  have inside := Item.index_lt i
  refine ⟨bit_word (by omega) ?_, bit_word (by omega) ?_⟩ <;> rw [sum, set f, set g] <;>
    cases i <;> simp only [Item.index] <;> omega

/-- Figure 10-4: the fields of word 20H. -/
theorem portView_head (v : PortView) :
    (v.word 0).getLsbD 15 = true ∧ (v.word 0).getLsbD 14 = v.record.resync ∧ bits (v.word 0) 0 5 = v.port.val ∧
    bits (v.word 0) 5 3 = v.record.state.code ∧ bits (v.word 0) 8 4 = reasonCode v.record.reason := by
  have port : v.port.val < 24 := v.port.isLt
  have state := stateCode_lt v.record.state
  have reason := reasonCode_lt v.record.reason
  have resync := bitN_lt v.record.resync
  have sum : total [(v.port.val, 0), (v.record.state.code, 5), (reasonCode v.record.reason, 8), (bitN v.record.resync, 14),
      (1, 15)] = v.port.val + v.record.state.code * 32 + reasonCode v.record.reason * 256 + bitN v.record.resync * 16384 +
        32768 := by
    simp [total, Nat.add_assoc]
  refine ⟨bit_word (by decide) ?_, bit_word (by decide) ?_, bits_word (by decide) ?_, bits_word (by decide) ?_,
    bits_word (by decide) ?_⟩
  all_goals rw [sum]
  · rw [bitN_true]
    omega
  all_goals omega

/-- Figure 10-4: the fields of word 22H. -/
theorem bindingWord_fields (b : Binding) :
    (bindingWord (some b)).getLsbD 0 = true ∧ bits (bindingWord (some b)) 1 1 = chanNumber b.channel ∧
    bits (bindingWord (some b)) 2 5 = b.device.toNat ∧ bits (bindingWord (some b)) 7 3 = b.profile.val ∧
    (bindingWord (some b)).getLsbD 10 = b.expected.isSome ∧ (bindingWord (some b)).getLsbD 11 = b.ignoreRevision := by
  have channel := chanNumber_lt b.channel
  have device : b.device.toNat < 32 := b.device.isLt
  have profile : b.profile.val < 8 := b.profile.isLt
  have expected := bitN_lt b.expected.isSome
  have ignore := bitN_lt b.ignoreRevision
  have sum : total [(1, 0), (chanNumber b.channel, 1), (b.device.toNat, 2), (b.profile.val, 7),
      (bitN b.expected.isSome, 10), (bitN b.ignoreRevision, 11)] = 1 + chanNumber b.channel * 2 + b.device.toNat * 4 +
        b.profile.val * 128 + bitN b.expected.isSome * 1024 + bitN b.ignoreRevision * 2048 := by
    simp [total, Nat.add_assoc]
  refine ⟨bit_word (by decide) ?_, bits_word (by decide) ?_, bits_word (by decide) ?_, bits_word (by decide) ?_,
    bit_word (by decide) ?_, bit_word (by decide) ?_⟩
  all_goals rw [sum]
  · rw [bitN_true]
    omega
  all_goals omega

/-- Figure 10-4: the fields of word 25H. -/
theorem portView_counts (v : PortView) (miss : v.record.missCount ≤ 15) (attempt : v.record.attemptCount ≤ 15) :
    bits (v.word 5) 0 4 = v.record.missCount ∧ bits (v.word 5) 4 4 = v.record.attemptCount ∧
    (v.word 5).getLsbD 8 = v.record.stickyDown ∧ (v.word 5).getLsbD 9 = v.record.stickyFault ∧
    (v.word 5).getLsbD 10 = v.record.saturated ∧ (v.word 5).getLsbD 11 = v.record.lastIdentity.isSome ∧
    (v.word 5).getLsbD 12 = v.record.lastGood.isSome := by
  have down := bitN_lt v.record.stickyDown
  have fault := bitN_lt v.record.stickyFault
  have saturated := bitN_lt v.record.saturated
  have identity := bitN_lt v.record.lastIdentity.isSome
  have good := bitN_lt v.record.lastGood.isSome
  have sum : total [(v.record.missCount, 0), (v.record.attemptCount, 4), (bitN v.record.stickyDown, 8),
      (bitN v.record.stickyFault, 9), (bitN v.record.saturated, 10), (bitN v.record.lastIdentity.isSome, 11),
      (bitN v.record.lastGood.isSome, 12)] = v.record.missCount + v.record.attemptCount * 16 +
        bitN v.record.stickyDown * 256 + bitN v.record.stickyFault * 512 + bitN v.record.saturated * 1024 +
        bitN v.record.lastIdentity.isSome * 2048 + bitN v.record.lastGood.isSome * 4096 := by
    simp [total, Nat.add_assoc]
  refine ⟨bits_word (by decide) ?_, bits_word (by decide) ?_, bit_word (by decide) ?_, bit_word (by decide) ?_,
    bit_word (by decide) ?_, bit_word (by decide) ?_, bit_word (by decide) ?_⟩
  all_goals
    rw [sum]
    omega

theorem code_of_speedShown : ∀ x ∈ [(none, 0), (some (ItemValue.speed .s10), 0), (some (.speed .s100), 1),
    (some (.speed .s1000), 2), (some (.speed .s2500), 3)], speedShown x.1 = x.2 := by decide

theorem speedShown_lt (v : Option ItemValue) : speedShown v < 4 := by
  unfold speedShown
  split
  · next c => cases c <;> decide
  · decide

/-- Figure 10-4: the fields of word 2AH. -/
theorem portView_mirror (v : PortView) :
    (∀ x ∈ [(Item.link, 0), (.neg, 1), (.duplex, 2), (.rfault, 3), (.energy, 4)],
      (v.word 10).getLsbD x.2 = decide (v.record.mirror.get x.1 = some (.flag true))) ∧
    bits (v.word 10) 5 2 = speedShown v.record.mirror.speed := by
  have flag : ∀ o : Option ItemValue, flagShown o < 2 := fun o => bitN_lt _
  have link := flag v.record.mirror.link
  have neg := flag v.record.mirror.neg
  have duplex := flag v.record.mirror.duplex
  have rfault := flag v.record.mirror.rfault
  have energy := flag v.record.mirror.energy
  have speed := speedShown_lt v.record.mirror.speed
  have sum : total [(flagShown v.record.mirror.link, 0), (flagShown v.record.mirror.neg, 1),
      (flagShown v.record.mirror.duplex, 2), (flagShown v.record.mirror.rfault, 3), (flagShown v.record.mirror.energy, 4),
      (speedShown v.record.mirror.speed, 5)] = flagShown v.record.mirror.link + flagShown v.record.mirror.neg * 2 +
        flagShown v.record.mirror.duplex * 4 + flagShown v.record.mirror.rfault * 8 +
        flagShown v.record.mirror.energy * 16 + speedShown v.record.mirror.speed * 32 := by
    simp [total, Nat.add_assoc]
  refine ⟨fun x item => ?_, bits_word (by decide) ?_⟩
  · simp only [List.mem_cons, List.not_mem_nil, or_false] at item
    have shown : ∀ o : Option ItemValue, bitN (decide (o = some (.flag true))) = flagShown o := fun _ => rfl
    obtain rfl | rfl | rfl | rfl | rfl := item
    all_goals
      refine bit_word (by decide) ?_
      rw [sum, shown]
      simp only [PerItem.get]
      omega
  · rw [sum]
    omega

/-- Settles O16: the record copied, RESYNC cleared, and the words of the view. -/
theorem snapshotCopiesTheRecord : Obligations.SnapshotCopiesTheRecord := by
  intro hi s ready
  refine ⟨fun above => exec_taken (d := takeSnapshot) rfl ready (onNamedPort_of_gt above), fun p named => ?_⟩
  have taken : takeSnapshot (delivered s hi 7) = ((delivered s hi 7).snapshot p, .done) :=
    onNamedPort_of_eq (s := delivered s hi 7) named
  obtain ⟨t, row, left⟩ : ∃ t, exec (.snapshot hi) s = .next t ∧ t = { s with
        cu := shown s.cu hi 7 .done 0 none
        pt := { s.pt with
          view := some ⟨p, s.stamp, s.port p⟩
          ports := s.pt.ports.set p { s.port p with resync := false } } } :=
    ⟨_, exec_taken rfl ready taken, rfl⟩
  refine ⟨t, row, left, ?_⟩
  have view : t.pt.view = some ⟨p, s.stamp, s.port p⟩ := by rw [left]
  have words : ∀ n : Fin 16, t.readWord (BitVec.ofNat 7 (0x20 + n.val)) = PortView.word ⟨p, s.stamp, s.port p⟩ n.val :=
    readWord_portView view
  obtain ⟨valid, resync, port, state, reason⟩ := portView_head ⟨p, s.stamp, s.port p⟩
  obtain ⟨flags, speed⟩ := portView_mirror ⟨p, s.stamp, s.port p⟩
  have identity : (t.readWord 0x26 ++ t.readWord 0x27 : BitVec 32) = (s.port p).lastIdentity.getD 0 := by
    rw [show t.readWord 0x26 = _ from words 6, show t.readWord 0x27 = _ from words 7]
    exact high_low _
  have accumulator : (t.readWord 0x2D ++ t.readWord 0x2E : BitVec 32) = (s.port p).accumulator := by
    rw [show t.readWord 0x2D = _ from words 13, show t.readWord 0x2E = _ from words 14]
    exact high_low _
  have expected : ∀ b, (s.port p).binding = b →
      t.readWord 0x23 = highWord (expectedShown b) ∧ t.readWord 0x24 = lowWord (expectedShown b) := by
    rintro _ rfl
    exact ⟨words 3, words 4⟩
  have binding : ∀ b, (s.port p).binding = b → t.readWord 0x22 = bindingWord b := by
    rintro _ rfl
    exact words 2
  have shownPartner : t.readWord 0x2B = shownValue (s.port p).mirror.partner := words 11
  have shownCount : t.readWord 0x2C = shownValue (s.port p).mirror.count := words 12
  have w0 : t.readWord 0x20 = PortView.word ⟨p, s.stamp, s.port p⟩ 0 := words 0
  have w5 : t.readWord 0x25 = PortView.word ⟨p, s.stamp, s.port p⟩ 5 := words 5
  have w9 : t.readWord 0x29 = PortView.word ⟨p, s.stamp, s.port p⟩ 9 := words 9
  have w10 : t.readWord 0x2A = PortView.word ⟨p, s.stamp, s.port p⟩ 10 := words 10
  rw [w0, w5, w9, w10, shownPartner, shownCount]
  refine ⟨words 1, words 15, words 8, showsValue_shownValue _, showsValue_shownValue _, accumulator, identity, valid, resync,
    port, fun x code same => ?_, fun x code same => ?_, fun absent => ?_, fun b present => ?_,
    portView_counts ⟨p, s.stamp, s.port p⟩, fun i => bit_itemBits _ _ i, flags, fun x value same => ?_⟩
  · rw [state, ← code_of_stateCodes code, ← same]
  · rw [reason, ← code_of_reasonCodes code, ← same]
  · rw [binding _ absent, (expected _ absent).1, (expected _ absent).2]
    exact ⟨rfl, rfl, rfl⟩
  · dsimp only
    rw [binding _ present, (expected _ present).1, (expected _ present).2]
    obtain ⟨installed, channel, device, profile, some_expected, ignore⟩ := bindingWord_fields b
    exact ⟨installed, channel, device, profile, some_expected, ignore, high_low _⟩
  · rw [speed, ← code_of_speedShown x value, ← same]

end Sys2Proof.Laws
end

section
/-! PROOFS. The values after power-on / RSTN, and that they meet every law (§§1.8 to 10.6). -/
namespace Sys2Proof.Laws

open Sys2Proof.Machine Sys2Proof.Safety

/-- The record of every port after power-on / RSTN. -/
theorem port_reset (p : PortId) : State.reset.port p = PortRec.reset := by
  simp [State.reset, PortTable.reset, State.port]

theorem profile_reset (n : Fin 8) : State.reset.profile n = none := by
  simp [State.reset, ProfileStore.reset, State.profile]

theorem chan_reset (ch : Chan) : State.reset.chan ch = Channel.reset := by cases ch <;> rfl

/-- Settles O3. -/
theorem resetValuesOfThePart : Obligations.ResetValuesOfThePart := by
  refine ⟨rfl, rfl, rfl, rfl, rfl, port_reset, rfl, profile_reset, rfl, rfl, chan_reset, rfl, rfl, rfl, rfl, rfl, rfl, rfl,
    fun n => ?_, rfl, rfl, rfl, rfl⟩
  rw [readWord_argAddress]
  fin_cases n <;> rfl

theorem port_powerOn (s : State) (low : Bool) (p : PortId) : (s.powerOn low).port p = PortRec.reset := port_reset p

theorem chan_powerOn (s : State) (low : Bool) (ch : Chan) : (s.powerOn low).chan ch = Channel.reset := by
  cases ch <;> rfl

theorem limitLaw_reset : LimitLaw PortTable.reset :=
  ⟨by decide, by decide, by decide, by decide, fun p => by simp [PortTable.reset, PortRec.reset]⟩

theorem eventLaw_reset : EventLaw EventBlock.reset := eventLaw_empty rfl rfl (by decide)

theorem queueLaw_powerOn (s : State) (low : Bool) (ch : Chan) : QueueLaw (s.powerOn low) ch := by
  have probes : ((s.powerOn low).chan ch).sched.probes = [] := by rw [chan_powerOn]; rfl
  have urgent : ((s.powerOn low).chan ch).sched.urgent = [] := by rw [chan_powerOn]; rfl
  exact ⟨by simp [urgent], by simp [urgent], by simp [probes], by simp [probes]⟩

theorem profileLaw_powerOn (s : State) (low : Bool) : ProfileLaw (s.powerOn low) := by
  refine ⟨fun n f installed => ?_, fun p bound => ?_⟩
  · have none_there : (s.powerOn low).ps.profiles[n] = none := profile_reset n
    simp [none_there] at installed
  · rw [bound_powerOn] at bound
    exact nomatch bound

theorem jobLaw_powerOn (s : State) (low : Bool) (ch : Chan) : JobLaw (s.powerOn low) ch := by
  unfold JobLaw
  rw [chan_powerOn]
  trivial

theorem workLaw_powerOn (s : State) (low : Bool) : WorkLaw (s.powerOn low) := by
  refine ⟨fun _ p probing => ?_, fun _ p lost => ?_⟩
  · rw [port_powerOn] at probing
    exact nomatch probing
  · rw [port_powerOn] at lost
    exact nomatch lost

/-- §§1.8 to 10.6: the state after power-on / RSTN meets every law. -/
theorem lawful_powerOn (s : State) (low : Bool) : Lawful (s.powerOn low) where
  ports := portLaw_reset limitLaw_reset none
  queue0 := queueLaw_powerOn s low .ch0
  queue1 := queueLaw_powerOn s low .ch1
  channels := laws_powerOn s low
  profiles := profileLaw_powerOn s low
  staging := stagingLaw_reset
  job0 := jobLaw_powerOn s low .ch0
  job1 := jobLaw_powerOn s low .ch1
  work := workLaw_powerOn s low
  credit := creditLaw_powerOn s low
  events := eventLaw_reset
  engine := engineLaw_reset

/-- Settles O4. -/
theorem resetStateIsLawful : Obligations.ResetStateIsLawful := lawful_powerOn State.reset false

end Sys2Proof.Laws
end

section
/-! PROOFS. Every owner answers: a command leaves the command register and the argument words, a checked write leaves the whole
Command Unit, and the answer is a result other than NONE (R183, R187, R189). -/
namespace Sys2Proof.Laws

open Sys2Proof.Machine Sys2Proof.Safety

/-- `t` has the Command Unit and the level of RSTN of `s`. -/
structure UnitKept (s t : State) : Prop where
  cu : t.cu = s.cu
  rstnLow : t.rstnLow = s.rstnLow

theorem UnitKept.trans {s t u : State} (a : UnitKept s t) (b : UnitKept t u) : UnitKept s u :=
  ⟨b.cu.trans a.cu, b.rstnLow.trans a.rstnLow⟩

theorem Ongoing.unitKept {s t : State} (h : Ongoing s t) : UnitKept s t := ⟨h.cu, h.rstnLow⟩

theorem unitKept_modChan (s : State) (ch : Chan) (f : Channel → Channel) : UnitKept s (s.modChan ch f) :=
  ⟨State.modChan_cu .., State.modChan_rstnLow ..⟩

theorem unitKept_modSched (s : State) (ch : Chan) (f : Scheduler → Scheduler) : UnitKept s (s.modSched ch f) :=
  ⟨State.modSched_cu .., State.modSched_rstnLow ..⟩

/-- An owner's answer to a command. -/
structure Answers (s : State) (r : State × Answer) : Prop where
  rstnLow : r.1.rstnLow = s.rstnLow
  command : r.1.cu.command = s.cu.command
  args : r.1.cu.args = s.cu.args
  shows : r.2.code ≠ .none

/-- An owner's answer to a checked write. -/
structure Checks (s : State) (r : State × Answer) : Prop where
  kept : UnitKept s r.1
  shows : r.2.code ≠ .none

theorem Checks.answers {s : State} {r : State × Answer} (h : Checks s r) : Answers s r :=
  ⟨h.kept.rstnLow, congrArg CommandUnit.command h.kept.cu, congrArg CommandUnit.args h.kept.cu, h.shows⟩

theorem checks_of {s t : State} {a : Answer} (kept : UnitKept s t) (shows : a.code ≠ .none) : Checks s (t, a) := ⟨kept, shows⟩

theorem checks_self {s : State} {a : Answer} (h : a.code ≠ .none) : Checks s (s, a) := ⟨⟨rfl, rfl⟩, h⟩

theorem checks_onNamedPort {s : State} {f : PortId → State × Answer} (each : ∀ p, Checks s (f p)) :
    Checks s (s.onNamedPort f) := by
  unfold State.onNamedPort
  split
  · exact checks_self (by decide)
  · exact each _

theorem answers_onNamedChannel {s : State} {f : Chan → State × Answer} (each : ∀ ch, Answers s (f ch)) :
    Answers s (s.onNamedChannel f) := by
  unfold State.onNamedChannel
  split
  · exact (checks_self (by decide)).answers
  · exact each _

theorem unitKept_transition (s : State) (p : PortId) (new : PortState) (why : Option Reason) (eff : PortRec → PortRec) :
    UnitKept s (s.transition p new why eff) := by
  rw [transition_eq]
  exact ⟨rfl, rfl⟩

theorem unitKept_notice (s : State) (ch : Chan) : UnitKept s (s.notice ch) := (ongoing_notice s ch).unitKept

/-! ### Port Table -/

theorem checks_takeBind (s : State) : Checks s (takeBind s) := by
  unfold takeBind
  split
  · exact checks_self (by decide)
  · split
    · exact checks_self (by decide)
    · split
      · exact checks_self (by decide)
      · split
        · exact checks_self (by decide)
        · exact checks_of ((unitKept_transition ..).trans (unitKept_notice ..)) (by decide)

theorem checks_takeUnbind (s : State) : Checks s (takeUnbind s) := by
  refine checks_onNamedPort fun p => ?_
  split
  · exact checks_self (by decide)
  · exact checks_of (unitKept_transition ..) (by decide)

theorem checks_takeSuspend (s : State) : Checks s (takeSuspend s) := by
  refine checks_onNamedPort fun p => ?_
  split
  · exact checks_self (by decide)
  · exact checks_of (unitKept_transition ..) (by decide)

theorem unitKept_reprobe (s : State) (p : PortId) (why : Reason) : UnitKept s (s.reprobe p why) :=
  (unitKept_transition ..).trans (ongoing_noticeOf ..).unitKept

theorem checks_takeResume (s : State) : Checks s (takeResume s) := by
  refine checks_onNamedPort fun p => ?_
  split
  · exact checks_self (by decide)
  · exact checks_of (unitKept_reprobe ..) (by decide)

theorem checks_takeRetry (s : State) : Checks s (takeRetry s) := by
  refine checks_onNamedPort fun p => ?_
  split
  · exact checks_self (by decide)
  · exact checks_of (unitKept_reprobe ..) (by decide)

theorem checks_takeAck (s : State) : Checks s (takeAck s) := by
  refine checks_onNamedPort fun p => ?_
  split
  · exact checks_self (by decide)
  · exact checks_of ⟨rfl, rfl⟩ (by decide)

theorem checks_takeSnapshot (s : State) : Checks s (takeSnapshot s) := checks_onNamedPort fun _ => checks_of ⟨rfl, rfl⟩ (by decide)

theorem checks_takeMissLimit (v : Word) (s : State) : Checks s (takeMissLimit v s) := by
  unfold takeMissLimit
  split
  · exact checks_self (by decide)
  · split
    · exact checks_self (by decide)
    · exact checks_of ⟨rfl, rfl⟩ (by decide)

theorem checks_takeAttemptLimit (v : Word) (s : State) : Checks s (takeAttemptLimit v s) := by
  unfold takeAttemptLimit
  split
  · exact checks_self (by decide)
  · split
    · exact checks_self (by decide)
    · exact checks_of ⟨rfl, rfl⟩ (by decide)

theorem checks_takeRetryInterval (v : Word) (s : State) : Checks s (takeRetryInterval v s) := by
  unfold takeRetryInterval
  split
  · exact checks_self (by decide)
  · exact checks_of ⟨rfl, rfl⟩ (by decide)

theorem checks_takeLostInterval (v : Word) (s : State) : Checks s (takeLostInterval v s) := by
  unfold takeLostInterval
  split
  · exact checks_self (by decide)
  · exact checks_of ⟨rfl, rfl⟩ (by decide)

/-! ### Scan Scheduler and Bus Channel -/

theorem checks_takeSetScanEntry (s : State) : Checks s (takeSetScanEntry s) := by
  unfold takeSetScanEntry
  split
  · exact checks_of (unitKept_modSched ..) (by decide)
  · exact checks_self (by decide)

theorem checks_takeSetScanLength (s : State) : Checks s (takeSetScanLength s) := by
  unfold takeSetScanLength
  split
  · exact checks_self (by decide)
  · split
    · exact checks_of (unitKept_modSched ..) (by decide)
    · exact checks_self (by decide)

theorem answers_startTimed {s t : State} (kept : UnitKept s t) (code : BitVec 8) (wait0 wait1 : Bool) :
    Answers s (t.startTimed code wait0 wait1, .inProgress) :=
  have command : t.cu.command = s.cu.command := congrArg CommandUnit.command kept.cu
  have args : t.cu.args = s.cu.args := congrArg CommandUnit.args kept.cu
  ⟨kept.rstnLow, command, args, show ResultCode.inProgress ≠ .none by decide⟩

theorem answers_takeChannelEnable (s : State) : Answers s (takeChannelEnable s) := by
  refine answers_onNamedChannel fun ch => ?_
  split
  · unfold State.enableOn
    split
    · exact (checks_of ((unitKept_modChan ..).trans (unitKept_notice ..)) (by decide)).answers
    · exact (checks_self (by decide)).answers
  · unfold State.enableOff
    dsimp only
    split
    · exact (checks_self (by decide)).answers
    · exact (checks_of (unitKept_modChan ..) (by decide)).answers
    · exact (checks_self (by decide)).answers
    · split
      · exact (checks_of (unitKept_modChan ..) (by decide)).answers
      · exact answers_startTimed (unitKept_modChan ..) ..

theorem answers_takeChannelAbort (s : State) : Answers s (takeChannelAbort s) := by
  refine answers_onNamedChannel fun ch => ?_
  unfold State.abortChannel
  dsimp only
  split
  · exact (checks_of ((ongoing_beginAbort s ch).unitKept.trans (unitKept_notice ..)) (by decide)).answers
  · exact answers_startTimed (ongoing_beginAbort s ch).unitKept ..

theorem checks_restartChannel (s : State) (level : Bool) (ch : Chan) : Checks s (s.restartChannel level ch) := by
  unfold State.restartChannel
  split
  · exact checks_self (by decide)
  · dsimp only
    split
    · exact checks_of (((unitKept_modChan ..).trans (unitKept_modChan ..)).trans (unitKept_notice ..)) (by decide)
    · exact checks_of (unitKept_modChan ..) (by decide)

theorem answers_takeChannelRestart (level : Bool) (s : State) : Answers s (takeChannelRestart level s) :=
  answers_onNamedChannel fun ch => (checks_restartChannel s level ch).answers

theorem answers_takeSoftReset (s : State) : Answers s (takeSoftReset s) := by
  have begun : UnitKept (s.startTimed 20#8 true true) (((s.startTimed 20#8 true true).beginAbort .ch0).1.beginAbort .ch1).1 :=
    (ongoing_beginAbort _ .ch0).unitKept.trans (ongoing_beginAbort _ .ch1).unitKept
  have command := congrArg CommandUnit.command begun.cu
  have args := congrArg CommandUnit.args begun.cu
  have rstnLow := begun.rstnLow
  unfold takeSoftReset
  dsimp only
  split
  · refine ⟨?_, ?_, ?_, show ResultCode.done ≠ .none by decide⟩
    · rw [(unitKept_notice ..).rstnLow, (unitKept_notice ..).rstnLow]
      exact rstnLow
    · rw [(unitKept_notice ..).cu, (unitKept_notice ..).cu]
      exact command
    · rw [(unitKept_notice ..).cu, (unitKept_notice ..).cu]
      exact args
  · exact ⟨rstnLow, command, args, show ResultCode.inProgress ≠ .none by decide⟩

theorem checks_takeDivider (ch : Chan) (v : Word) (s : State) : Checks s (s.takeDivider ch v) := by
  unfold State.takeDivider
  split
  · exact checks_of (unitKept_modChan ..) (by decide)
  · exact checks_self (by decide)

theorem checks_takePassInterval (ch : Chan) (v : Word) (s : State) : Checks s (s.takePassInterval ch v) := by
  unfold State.takePassInterval
  split
  · exact checks_self (by decide)
  · exact checks_of (unitKept_modSched ..) (by decide)

theorem checks_takeHostWeight (ch : Chan) (v : Word) (s : State) : Checks s (s.takeHostWeight ch v) := by
  unfold State.takeHostWeight
  split
  · exact checks_of (unitKept_modChan ..) (by decide)
  · exact checks_self (by decide)

/-! ### Profile Store, Host Transaction Unit and Event Queue -/

theorem checks_takeProfileLoad (s : State) : Checks s (takeProfileLoad s) := by
  unfold takeProfileLoad
  split
  · exact checks_self (by decide)
  · split
    · exact checks_self (by decide)
    · split
      · exact checks_self nofun
      · exact checks_of ⟨rfl, rfl⟩ (by decide)

theorem checks_offer (s : State) (t : HostTxn) (more : Bool) : Checks s (s.offer t more) := by
  unfold State.offer
  dsimp only
  split
  · exact checks_self (by decide)
  · split
    · exact checks_self (by decide)
    · split
      · exact checks_self (by decide)
      · exact checks_of ⟨(unitKept_notice ..).cu.trans (State.modChan_cu ..),
          (unitKept_notice ..).rstnLow.trans (State.modChan_rstnLow ..)⟩ (by decide)

theorem checks_takePost (s : State) : Checks s (takePost s) := by
  unfold takePost
  split
  · unfold State.postRawRead
    split
    · exact checks_self (by decide)
    · exact checks_offer ..
  · unfold State.postRawWrite
    split
    · exact checks_self (by decide)
    · exact checks_offer ..
  · unfold State.postItemRead
    split
    · split
      · exact checks_self (by decide)
      · split
        · exact checks_self (by decide)
        · exact checks_offer ..
    · exact checks_self (by decide)
  · exact checks_self (by decide)

theorem checks_takeTakeCompletion (s : State) : Checks s (takeTakeCompletion s) := by
  unfold takeTakeCompletion
  split
  · exact checks_self (by decide)
  · exact checks_of ⟨rfl, rfl⟩ (by decide)

theorem checks_takePopEvent (s : State) : Checks s (takePopEvent s) := by
  unfold takePopEvent
  split
  · exact checks_self (by decide)
  · exact checks_of ⟨rfl, rfl⟩ (by decide)

theorem checks_takeThreshold (v : Word) (s : State) : Checks s (takeThreshold v s) := by
  unfold takeThreshold
  split
  · exact checks_of ⟨rfl, rfl⟩ (by decide)
  · exact checks_self (by decide)

/-! ### Indicator Engine -/

theorem checks_takeOverride (s : State) : Checks s (takeOverride s) := by
  unfold takeOverride
  split
  · exact checks_of ⟨rfl, rfl⟩ (by decide)
  · exact checks_self (by decide)

theorem checks_takeCancelOverride (s : State) : Checks s (takeCancelOverride s) := by
  unfold takeCancelOverride
  split
  · exact checks_self (by decide)
  · split
    · exact checks_self (by decide)
    · exact checks_of ⟨rfl, rfl⟩ (by decide)

theorem checks_takeSetRate (s : State) : Checks s (takeSetRate s) := by
  unfold takeSetRate
  split
  · exact checks_self (by decide)
  · dsimp only
    split
    · split
      · exact checks_of ⟨rfl, rfl⟩ (by decide)
      · exact checks_of ⟨rfl, rfl⟩ (by decide)
      · exact checks_self (by decide)
    · exact checks_self (by decide)

theorem checks_takeIndicatorIndex (v : Word) (s : State) : Checks s (takeIndicatorIndex v s) := by
  unfold takeIndicatorIndex
  split
  · exact checks_self (by decide)
  · exact checks_of ⟨rfl, rfl⟩ (by decide)

theorem checks_takeIndicatorRecord (n : Fin 3) (v : Word) (s : State) : Checks s (takeIndicatorRecord n v s) := by
  unfold takeIndicatorRecord
  split
  · exact checks_self (by decide)
  · exact checks_of ⟨rfl, rfl⟩ (by decide)

theorem checks_takeChainLength (v : Word) (s : State) : Checks s (takeChainLength v s) := by
  unfold takeChainLength
  split
  · exact checks_of ⟨rfl, rfl⟩ (by decide)
  · exact checks_self (by decide)

theorem checks_takeFlashWidth (v : Word) (s : State) : Checks s (takeFlashWidth v s) := by
  unfold takeFlashWidth
  split
  · exact checks_of ⟨rfl, rfl⟩ (by decide)
  · exact checks_self (by decide)

/-! ### Rows -/

theorem answers_commandOwner (code : BitVec 8) (s : State) : Answers s (commandOwner code s) := by
  generalize owner : commandOwner code = d
  unfold commandOwner at owner
  split at owner <;> subst owner
  · exact (checks_self (by decide)).answers
  · exact (checks_takeBind s).answers
  · exact (checks_takeUnbind s).answers
  · exact (checks_takeSuspend s).answers
  · exact (checks_takeResume s).answers
  · exact (checks_takeRetry s).answers
  · exact (checks_takeAck s).answers
  · exact (checks_takeSnapshot s).answers
  · exact (checks_takeSetScanEntry s).answers
  · exact (checks_takeSetScanLength s).answers
  · exact (checks_takeProfileLoad s).answers
  · exact (checks_takePost s).answers
  · exact (checks_takeTakeCompletion s).answers
  · exact (checks_takePopEvent s).answers
  · exact (checks_takeOverride s).answers
  · exact (checks_takeCancelOverride s).answers
  · exact (checks_takeSetRate s).answers
  · exact answers_takeChannelEnable s
  · exact answers_takeChannelAbort s
  · exact answers_onNamedChannel fun ch => (checks_restartChannel s _ ch).answers
  · exact answers_takeSoftReset s
  · exact (checks_self (by decide)).answers

/-- R183, R188: the owner that a row of the command set asks; only CHANNEL_RESTART brings more than its code. -/
theorem owner_of_commandOf {i : Instr} {hi code : BitVec 8} (h : commandOf i = some (hi, code)) :
    ∃ d : Delivery, (∀ s : State, exec i s = s.live fun s => s.command hi code d) ∧ ∀ s, Answers s (d s) := by
  cases i <;> simp only [commandOf, reduceCtorEq, Option.some.injEq, Prod.mk.injEq] at h
  case channelRestart hi' level =>
    obtain ⟨rfl, rfl⟩ := h
    exact ⟨takeChannelRestart level, fun _ => rfl, answers_takeChannelRestart level⟩
  all_goals
    refine ⟨commandOwner code, fun s => ?_, answers_commandOwner code⟩
    obtain ⟨rfl, rfl⟩ := h
    rfl

/-- R186: the owner that a row of checked writes asks. -/
theorem owner_of_checkedOf {i : Instr} {a : BitVec 7} (h : checkedOf i = some a) :
    ∃ d : Delivery, (∀ s : State, exec i s = s.live fun s => s.checkedWrite a d) ∧ ∀ s, Checks s (d s) := by
  unfold checkedOf at h
  split at h <;> simp only [reduceCtorEq, Option.some.injEq] at h <;> subst h
  · exact ⟨_, fun _ => rfl, checks_takeThreshold _⟩
  · exact ⟨_, fun _ => rfl, fun _ => checks_of ⟨rfl, rfl⟩ (by decide)⟩
  · exact ⟨_, fun _ => rfl, checks_takeMissLimit _⟩
  · exact ⟨_, fun _ => rfl, checks_takeAttemptLimit _⟩
  · exact ⟨_, fun _ => rfl, checks_takeRetryInterval _⟩
  · exact ⟨_, fun _ => rfl, checks_takeLostInterval _⟩
  · exact ⟨_, fun _ => rfl, checks_takeDivider .ch0 _⟩
  · exact ⟨_, fun _ => rfl, checks_takeDivider .ch1 _⟩
  · exact ⟨_, fun _ => rfl, checks_takePassInterval .ch0 _⟩
  · exact ⟨_, fun _ => rfl, checks_takePassInterval .ch1 _⟩
  · exact ⟨_, fun _ => rfl, checks_takeHostWeight .ch0 _⟩
  · exact ⟨_, fun _ => rfl, checks_takeHostWeight .ch1 _⟩
  · exact ⟨_, fun _ => rfl, checks_takeIndicatorIndex _⟩
  · exact ⟨_, fun _ => rfl, checks_takeIndicatorRecord _ _⟩
  · exact ⟨_, fun _ => rfl, checks_takeChainLength _⟩
  · exact ⟨_, fun _ => rfl, checks_takeFlashWidth _⟩

/-- Settles O6: a command or a checked write is refused with BUSY or reaches its owner, who answers. -/
theorem commandsShowTheirSource : Obligations.CommandsShowTheirSource := by
  refine fun i s running => ⟨fun hi code h => ?_, fun a h => ?_⟩
  · obtain ⟨d, row, answers⟩ := owner_of_commandOf h
    refine ⟨_, exec_command (row s) running, ?_⟩
    unfold State.command
    dsimp only
    split
    · exact ⟨rfl, rfl, rfl, show ResultCode.busy ≠ .none by decide⟩
    · obtain ⟨-, command, args, shows⟩ := answers (delivered s hi code)
      exact ⟨command, args, rfl, shows⟩
  · obtain ⟨d, row, checks⟩ := owner_of_checkedOf h
    refine ⟨_, exec_running (fun s => s.checkedWrite a d) (row s) running, ?_⟩
    unfold State.checkedWrite
    dsimp only
    split
    · exact ⟨rfl, rfl, rfl, rfl, show ResultCode.busy ≠ .none by decide⟩
    · obtain ⟨⟨cu, -⟩, shows⟩ := checks s
      have command := congrArg CommandUnit.command cu
      have args := congrArg CommandUnit.args cu
      have timed := congrArg CommandUnit.timed cu
      exact ⟨command, args, timed, rfl, shows⟩

end Sys2Proof.Laws
end

section
/-! PROOFS. PROFILE_LOAD (R41), the frames of an access (R36, R37), the bits of a frame (R106), and POST (R125 to R127). -/
namespace Sys2Proof.Laws

open Sys2Proof.Machine Sys2Proof.Safety

/-! ### PROFILE_LOAD -/

/-- R43: a profile is in use exactly while the binding of a bound port names it. -/
theorem profileInUse_iff (t : PortTable) (n : Fin 8) :
    t.profileInUse n = true ↔
      ∃ p : PortId, t.ports[p].bound = true ∧ t.ports[p].binding.map Binding.profile = some n := by
  simp [PortTable.profileInUse, allPorts]

theorem takeProfileLoad_of_gt {s : State} (h : 7 < s.argTarget) : takeProfileLoad s = (s, .badArg 0) := by
  simp [takeProfileLoad, finOf_eq_none (Nat.succ_le_of_lt h)]

section
variable {s : State} {n : Fin 8} (named : s.argTarget = n.val)
include named

theorem takeProfileLoad_of_in_use (used : s.pt.profileInUse n = true) : takeProfileLoad s = (s, .refuse .inUse) := by
  simp [takeProfileLoad, named, used]

theorem takeProfileLoad_of_failed (free : s.pt.profileInUse n = false) {sub : Nat} {item : Option Item}
    (failed : s.ps.staging.check = some (sub, item)) : takeProfileLoad s = (s, ⟨.badArg, sub, item⟩) := by
  simp [takeProfileLoad, named, free, failed]

theorem takeProfileLoad_of_passed (free : s.pt.profileInUse n = false) (passed : s.ps.staging.check = none) :
    takeProfileLoad s =
      ({ s with ps := { s.ps with profiles := s.ps.profiles.set n (some s.ps.staging.install) } }, .done) := by
  simp [takeProfileLoad, named, free, passed]

end

/-- Settles O24: the number, then the use, then the checks. -/
theorem profileLoadInstallsOrRefuses : Obligations.ProfileLoadInstallsOrRefuses := by
  refine fun hi s ready => ⟨fun h => ?_, fun n named => ⟨fun used => ?_, fun unused => ?_⟩⟩
  · exact exec_taken rfl ready (takeProfileLoad_of_gt (s := delivered s hi 10#8) h)
  · exact exec_taken rfl ready
      (takeProfileLoad_of_in_use (s := delivered s hi 10#8) named ((profileInUse_iff s.pt n).mpr used))
  · have free : s.pt.profileInUse n = false := by
      rw [← Bool.not_eq_true, profileInUse_iff]
      exact fun ⟨p, bound, names⟩ => unused p bound names
    exact ⟨fun sub item failed => exec_taken rfl ready (takeProfileLoad_of_failed (s := delivered s hi 10#8) named free failed),
      fun passed => exec_taken rfl ready (takeProfileLoad_of_passed (s := delivered s hi 10#8) named free passed)⟩

/-! ### The frames of an access -/

/-- Settles O28: the access runs through its phases, frame by frame. -/
theorem accessesMakeTheirFrames : Obligations.AccessesMakeTheirFrames := by
  intro d reg sel data v w w2 x rest wants
  simp +contextual [accessFrames, Access.start, Location.firstPhase, Access.frame, Access.mainOp, Access.advance,
    Access.goTo, Location.restorePhase, Location.confirmPhase]

/-! ### The bits of a frame -/

@[simp] theorem length_driveBits (w n : Nat) : (driveBits w n).length = n := by simp [driveBits]

theorem driveBits_getElem? {w n k : Nat} (h : k < n) : (driveBits w n)[k]? = some (.of (w.testBit (n - 1 - k))) := by
  simp [driveBits, h]

@[simp] theorem length_opBits (op : FrameOp) : op.opBits.length = 2 := by cases op <;> rfl

@[simp] theorem length_frameTail (op : FrameOp) : op.tail.length = 18 := by cases op <;> simp [FrameOp.tail]

/-- R106: a frame without its preamble, piece by piece. -/
theorem wire_bare (f : Frame) :
    f.wire false = [.zero, .one] ++ (f.op.opBits ++ (driveBits f.device.toNat 5 ++ (driveBits f.reg.toNat 5 ++ f.op.tail))) := by
  simp [Frame.wire]

theorem wire_preamble (f : Frame) : f.wire true = List.replicate 32 .one ++ f.wire false := by
  simp [Frame.wire]

theorem length_wire (f : Frame) (pre : Bool) : (f.wire pre).length = if pre then 64 else 32 := by
  cases pre <;> simp [Frame.wire]

/-- R106: turnaround and data follow the first 14 bits of a frame. -/
theorem drop_wire (f : Frame) : (f.wire false).drop 14 = f.op.tail := by
  rw [wire_bare, ← List.append_assoc, ← List.append_assoc, ← List.append_assoc]
  exact List.drop_left' (by simp)

/-- Settles O43: the pieces of a frame stand at fixed places. -/
theorem managementFrameOnTheWire : Obligations.ManagementFrameOnTheWire := by
  intro f pre d
  refine ⟨length_wire f pre, wire_preamble f, by simp [wire_bare], ?_, fun k => ⟨?_, ?_⟩, fun read => ?_,
    fun w written => ⟨?_, fun k => ?_⟩, by rw [frameCycles, length_wire, mdcHalfCycles]⟩
  · cases h : f.op <;> simp [wire_bare, h, FrameOp.opBits]
  · rw [wire_bare, ← List.append_assoc, List.getElem?_append_right (by simp), List.getElem?_append_left (by simp),
      driveBits_getElem? (by simp)]
    simp [BitVec.getLsbD]
  · rw [wire_bare, ← List.append_assoc, ← List.append_assoc, List.getElem?_append_right (by simp),
      List.getElem?_append_left (by simp), driveBits_getElem? (by simp)]
    simp [BitVec.getLsbD]
  · simp [drop_wire, read, FrameOp.tail]
  · simp [drop_wire, written, FrameOp.tail]
  · have place : (f.wire false)[16 + k.val]? = ((f.wire false).drop 14)[2 + k.val]? := by
      rw [List.getElem?_drop]; congr 1; omega
    rw [place, drop_wire, written, FrameOp.tail, List.getElem?_append_right (by simp), driveBits_getElem? (by simp)]
    simp [BitVec.getLsbD]

/-! ### POST -/

theorem rawArgs_of_out_of_range {s : State} (h : 1 < s.argChannel ∨ 31 < s.argDevice ∨ 31 < s.argRegister) :
    s.rawArgs = none := by
  unfold State.rawArgs
  split
  · next hc hd hr =>
    obtain h | h | h := h
    · simp [chanOf_eq_none h] at hc
    · simp [finOf_eq_none (Nat.succ_le_of_lt h)] at hd
    · simp [finOf_eq_none (Nat.succ_le_of_lt h)] at hr
  · rfl

theorem rawArgs_of_named {s : State} {ch : Chan} {dev reg : BusAddr} (hc : s.argChannel = chanNumber ch)
    (hd : s.argDevice = dev.toNat) (hr : s.argRegister = reg.toNat) : s.rawArgs = some (ch, dev, reg) := by
  simp [State.rawArgs, hc, hd, hr, finOf_of_lt dev.isLt, finOf_of_lt reg.isLt]

theorem itemOf_index (i : Item) : itemOf i.index = some i := by cases i <;> rfl

theorem itemOf_eq_none {n : Nat} (h : 7 < n) : itemOf n = none := List.getElem?_eq_none h

/-- R125: a POST whose arguments ask for a transaction offers it, and its row is the one write of code 11. -/
theorem takePost_of_asks {s : State} {hi : BitVec 8} {i : Instr} {x : HostTxn} (asks : postAsks s hi i x) :
    takePost s = s.offer x s.argContinue ∧ ∀ s : State, exec i s = s.live fun s => s.command hi 11#8 takePost := by
  obtain ⟨ch, tag, op⟩ := x
  obtain ⟨rfl, ⟨dev, reg, hc, hd, hr, ⟨rfl, kind, rfl⟩ | ⟨rfl, kind, rfl⟩⟩ |
    ⟨p, item, b, f, rfl, kind, hp, hi', bound, rfl, installed, has, rfl⟩⟩ := asks
  · exact ⟨by simp [takePost, kind, State.postRawRead, rawArgs_of_named hc hd hr], fun _ => rfl⟩
  · exact ⟨by simp [takePost, kind, State.postRawWrite, rawArgs_of_named hc hd hr], fun _ => rfl⟩
  · exact ⟨by simp [takePost, kind, State.postItemRead, hp, hi', itemOf_index, bound, State.hasRecipe, installed, has],
      fun _ => rfl⟩

section
variable {s : State}

theorem takePost_of_unknown_kind (kind : s.argKind = 3) : takePost s = (s, .badArg 0) := by simp [takePost, kind]

/-- R125 (a): a RAW transaction with an argument out of its range. -/
theorem takePost_of_raw_out_of_range (kind : s.argKind = 0 ∨ s.argKind = 1)
    (range : 1 < s.argChannel ∨ 31 < s.argDevice ∨ 31 < s.argRegister) : takePost s = (s, .badArg 0) := by
  obtain kind | kind := kind <;>
    simp [takePost, kind, State.postRawRead, State.postRawWrite, rawArgs_of_out_of_range range]

/-- R125 (a): an ITEM_READ with an argument out of its range. -/
theorem takePost_of_item_out_of_range (kind : s.argKind = 2) (range : 23 < s.argTarget ∨ 7 < s.argItem) :
    takePost s = (s, .badArg 0) := by
  obtain range | range := range
  · simp [takePost, kind, State.postItemRead, finOf_eq_none (Nat.succ_le_of_lt range)]
  · simp [takePost, kind, State.postItemRead, itemOf_eq_none range]

section
variable {p : PortId} {item : Item} (kind : s.argKind = 2) (target : s.argTarget = p.val) (named : s.argItem = item.index)
include kind target named

/-- R125 (b). -/
theorem takePost_of_unbound (unbound : (s.port p).binding = none) : takePost s = (s, .refuse .badState) := by
  simp [takePost, kind, State.postItemRead, target, named, itemOf_index, unbound]

/-- R125 (c). -/
theorem takePost_of_lacking {b : Binding} {f : Profile} (bound : (s.port p).binding = some b)
    (installed : s.profile b.profile = some f) (lacks : f.recipes.get item = none) : takePost s = (s, .badArg 12) := by
  simp [takePost, kind, State.postItemRead, target, named, itemOf_index, bound, State.hasRecipe, installed, lacks]

end

variable {x : HostTxn} {more : Bool}

/-- R125 (d): the chain has no room for a further member. -/
theorem offer_of_long_chain (chain : (s.chan x.channel).chainOpen = true) (goesOn : more = true)
    (long : 3 ≤ (s.chan x.channel).tailMembers) : s.offer x more = (s, .badArg 13) := by
  simp [State.offer, chain, goesOn, long]

/-- R125 (e): the host queue has no room for a further unit. -/
theorem offer_of_full_queue (chain : (s.chan x.channel).chainOpen = false)
    (full : 8 ≤ (s.chan x.channel).hostQueue.length) : s.offer x more = (s, .refuse .full) := by
  simp [State.offer, chain, Config.hostQueueCapacity, full]

/-- R125 (f): the credit is used up. -/
theorem offer_of_no_credit (full : 16 ≤ s.ht.outstanding)
    (short : (s.chan x.channel).chainOpen = true → more = true → (s.chan x.channel).tailMembers < 3) :
    s.offer x more = (s, .refuse .full) := by
  unfold State.offer
  dsimp only
  rw [if_neg (by simpa using short), if_pos (c := Config.maxOutstanding ≤ _) full, ite_self]

end

/-- Settles O45: the refusals in their order. -/
theorem refusedPostChangesNothing : Obligations.RefusedPostChangesNothing := by
  intro hi s ready
  have refused {i : Instr} {a : Answer} (row : ∀ s : State, exec i s = s.live fun s => s.command hi 11#8 takePost)
      (taken : takePost (delivered s hi 11#8) = (delivered s hi 11#8, a)) :
      exec i s = .next { s with cu := shown s.cu hi 11 a.code a.sub a.item } := exec_taken (row s) ready taken
  have read : ∀ s : State, exec (.postRawRead hi) s = s.live fun s => s.command hi 11#8 takePost := fun _ => rfl
  have write : ∀ s : State, exec (.postRawWrite hi) s = s.live fun s => s.command hi 11#8 takePost := fun _ => rfl
  have item : ∀ s : State, exec (.postItemRead hi) s = s.live fun s => s.command hi 11#8 takePost := fun _ => rfl
  refine ⟨fun kind => refused item (takePost_of_unknown_kind (s := delivered s hi 11#8) kind),
    fun range => ⟨fun kind => refused read (takePost_of_raw_out_of_range (s := delivered s hi 11#8) (.inl kind) range),
      fun kind => refused write (takePost_of_raw_out_of_range (s := delivered s hi 11#8) (.inr kind) range)⟩,
    fun kind => ⟨fun range => refused item (takePost_of_item_out_of_range (s := delivered s hi 11#8) kind range),
      fun p item' target named =>
        ⟨fun unbound => refused item (takePost_of_unbound (s := delivered s hi 11#8) kind target named unbound),
          fun b f bound installed lacks =>
            refused item (takePost_of_lacking (s := delivered s hi 11#8) kind target named bound installed lacks)⟩⟩,
    fun i x asks => ?_⟩
  obtain ⟨offered, row⟩ := takePost_of_asks (s := delivered s hi 11#8) (hi := hi) (i := i) (x := x) asks
  have chan : (delivered s hi 11#8).chan x.channel = s.chan x.channel := by simp [delivered]
  rw [← chan]
  exact ⟨fun chain goesOn long => refused row (offered.trans (offer_of_long_chain chain goesOn long)),
    fun chain full => refused row (offered.trans (offer_of_full_queue chain full)),
    fun full short => refused row (offered.trans (offer_of_no_credit full short))⟩

/-- R127: what an accepted transaction finds: an empty place for a new unit, or an open chain with room. -/
def HasPlace (c : Channel) (more : Bool) (x : HostTxn) (queue : List (List HostTxn)) : Prop :=
  (c.chainOpen = false ∧ c.hostQueue.length < 8 ∧ queue = c.hostQueue ++ [[x]]) ∨
    (c.chainOpen = true ∧ ∃ before u, c.hostQueue = before ++ [u] ∧ (more = true → u.length < 3) ∧
      queue = before ++ [u ++ [x]])

theorem HasPlace.place {c : Channel} {more : Bool} {x : HostTxn} {queue : List (List HostTxn)}
    (h : HasPlace c more x queue) : c.place x more = { c with hostQueue := queue, chainOpen := more } := by
  obtain ⟨closed, -, rfl⟩ | ⟨chain, before, u, split, -, rfl⟩ := h
  · simp [Channel.place, closed]
  · simp [Channel.place, chain, split, appendToLast_concat]

/-- R125 (d) to (g): an offer that finds room and credit is accepted. -/
theorem offer_accepted {s : State} {x : HostTxn} {more : Bool} {queue : List (List HostTxn)}
    (room : HasPlace (s.chan x.channel) more x queue) (credit : s.ht.outstanding < 16) :
    s.offer x more = (State.notice
      (State.setChan { s with ht := { s.ht with outstanding := s.ht.outstanding + 1 } } x.channel
        { s.chan x.channel with hostQueue := queue, chainOpen := more }) x.channel, .done) := by
  have short : ((s.chan x.channel).chainOpen && more && decide (3 ≤ (s.chan x.channel).tailMembers)) = false := by
    obtain ⟨closed, -, -⟩ | ⟨chain, before, u, split, long, -⟩ := room
    · simp [closed]
    · cases more
      · simp
      · simpa [chain, Channel.tailMembers, split] using long rfl
  have fits : ¬(!(s.chan x.channel).chainOpen && decide (Config.hostQueueCapacity ≤ (s.chan x.channel).hostQueue.length)) := by
    obtain ⟨closed, fits, -⟩ | ⟨chain, -⟩ := room
    · rw [closed, decide_eq_false (show ¬Config.hostQueueCapacity ≤ _ from Nat.not_le.mpr fits)]
      decide
    · simp [chain]
  unfold State.offer
  dsimp only
  rw [if_neg (by simp [short]), if_neg fits, if_neg (by simpa [Config.maxOutstanding] using credit), State.modChan, room.place]
  cases x.channel <;> rfl

/-- Settles O44: the offer of the transaction asked for, and its notice. -/
theorem postPlacesItsTransaction : Obligations.PostPlacesItsTransaction := by
  intro hi s i x queue ready asks credit c room
  obtain ⟨offered, row⟩ := takePost_of_asks (s := delivered s hi 11#8) (hi := hi) (i := i) (x := x) asks
  have chan : (delivered s hi 11#8).chan x.channel = s.chan x.channel := by simp [delivered]
  have place : HasPlace ((delivered s hi 11#8).chan x.channel) s.argContinue x queue := chan ▸ room
  refine ⟨_, exec_taken (row s) ready (offered.trans (offer_accepted place credit)), ?_⟩
  rw [showResult_notice, chan]
  have same : (State.setChan { delivered s hi 11#8 with ht := { s.ht with outstanding := s.ht.outstanding + 1 } } x.channel
      { c with hostQueue := queue, chainOpen := s.argContinue }).showResult 11#8 .done =
      State.setChan { s with
          cu := shown s.cu hi 11 .done 0 none
          ht := { s.ht with outstanding := s.ht.outstanding + 1 } } x.channel
        { c with hostQueue := queue, chainOpen := s.argContinue } := by
    cases x.channel <;> rfl
  exact same ▸ notice_decided ..

end Sys2Proof.Laws
end

section
/-! PROOFS. The Scan Scheduler: the pass-interval expiry (R72, R73), the consultation (R74, R75, R96) and the tick of the
Timebase with its attention sample (R177, R80). -/
namespace Sys2Proof.Laws

open Sys2Proof.Machine Sys2Proof.Safety

/-! ### The pass-interval expiry -/

/-- Settles O30: not due, pending behind an open pass, restart, or a new pass. -/
theorem passIntervalExpiryActsByPassState : Obligations.PassIntervalExpiryActsByPassState := by
  intro s ch running c
  rw [exec_passIntervalExpiry running]
  refine ⟨fun quiet => ?_, fun due => ⟨fun opened => ?_, fun closed restarts => ?_, fun closed live filled => ?_⟩⟩
  · simp [State.passIntervalExpiry, show ¬(s.chan ch).sched.passTimer = .running 0 from quiet]
  · simp only [State.passIntervalExpiry, show (s.chan ch).sched.passTimer = .running 0 from due,
      show (s.chan ch).sched.pass.isSome = true from opened, if_true]
    rfl
  · rw [passIntervalExpiry_restarts due closed restarts]
    rfl
  · rw [passIntervalExpiry_starts due closed live filled]
    exact ⟨_, rfl, notice_decided ..⟩

/-! ### The walk of a pass -/

/-- R80: the ports of the attention lines, as one filter for each line. -/
theorem attentionPorts_eq (s : State) (ch : Chan) (lines : BitVec 4) : s.attentionPorts ch lines = linePorts s ch lines := by
  unfold State.attentionPorts linePorts
  congr 1
  funext n
  cases lines.getLsbD n <;> simp

theorem mem_linePorts {s : State} {ch : Chan} {lines : BitVec 4} {p : PortId} :
    p ∈ linePorts s ch lines ↔
      (s.port p).activeOn ch = true ∧ ∃ n : Fin 4, lines.getLsbD n = true ∧ s.att.sets[n].getLsbD p = true := by
  simp only [linePorts, List.mem_flatMap, List.mem_filter, List.mem_finRange, allPorts, true_and, Bool.and_eq_true]
  exact ⟨fun ⟨n, ⟨line, set⟩, active⟩ => ⟨active, n, line, set⟩, fun ⟨active, n, line, set⟩ => ⟨n, ⟨line, set⟩, active⟩⟩

theorem mem_addedOnce {queue ports : List PortId} {p : PortId} : p ∈ addedOnce queue ports ↔ p ∈ queue ∨ p ∈ ports := by
  induction ports generalizing queue with
  | nil => simp [addedOnce]
  | cons a ports ih =>
    have next : addedOnce queue (a :: ports) = addedOnce (if a ∈ queue then queue else queue ++ [a]) ports := rfl
    rw [next, ih, List.mem_cons]
    split
    case isTrue there =>
      constructor
      · exact fun h => h.imp_right .inr
      · rintro (h | rfl | h)
        exacts [.inl h, .inl there, .inr h]
    case isFalse => simp [or_assoc]

/-- R74: a walk stops at the first eligible entry. -/
theorem walkFrom_of_entry {s : State} {ch : Chan} {l : List PortId} {k : Nat} {p : PortId} (n : Nat) (there : l[k]? = some p)
    (active : (s.port p).activeOn ch = true)
    (first : ∀ (m : Nat) (q : PortId), m < k → l[m]? = some q → (s.port q).activeOn ch = false) :
    s.walkFrom ch l n = (n + k, some p) := by
  induction l generalizing n k with
  | nil => simp at there
  | cons q l ih =>
    cases k with
    | zero =>
      obtain rfl : q = p := by simpa using there
      simp [State.walkFrom, active]
    | succ k =>
      have skipped := first 0 q (Nat.succ_pos k) rfl
      rw [State.walkFrom, if_neg (by simp [skipped]),
        ih (n + 1) there fun m r below at_m => first (m + 1) r (Nat.succ_lt_succ below) at_m, Nat.add_assoc, Nat.add_comm 1]

/-- R74: the walk of an open pass to its first eligible entry. -/
theorem walk_of_entry {s : State} {ch : Chan} {c : Scheduler} {q : Pass} {n : Nat} {p : PortId} (opened : c.pass = some q)
    (after : q.position ≤ n) (there : q.list[n]? = some p) (active : (s.port p).activeOn ch = true)
    (first : ∀ (m : Nat) (p' : PortId), q.position ≤ m → m < n → q.list[m]? = some p' → (s.port p').activeOn ch = false) :
    s.walk ch c = ({ c with pass := some { q with position := n } }, some p) := by
  have found := walkFrom_of_entry (s := s) (ch := ch) (l := q.list.drop q.position) (k := n - q.position) (p := p) q.position
    (by rwa [List.getElem?_drop, Nat.add_sub_cancel' after]) active fun m p' below at_m =>
      first (q.position + m) p' (Nat.le_add_right ..) (by omega) (by rwa [List.getElem?_drop] at at_m)
  simp only [State.walk, opened, found, Nat.add_sub_cancel' after]

/-! ### The end of a walk -/

/-- R75: the ports that a pass end adds to an empty urgent queue. -/
def endAdds (s : State) (ch : Chan) : List PortId := addedOnce [] (linePorts s ch s.att.levels)

theorem mem_endAdds {s : State} {ch : Chan} {p : PortId} :
    p ∈ endAdds s ch ↔
      (s.port p).activeOn ch = true ∧ ∃ n : Fin 4, s.att.levels.getLsbD n = true ∧ s.att.sets[n].getLsbD p = true := by
  rw [endAdds, mem_addedOnce, mem_linePorts]
  simp

section
variable (s : State) (ch : Chan) {c : Scheduler} (urgent : c.urgent = [])
include urgent

theorem endWalk_of_not_pending (pending : c.pendingExpiry = false) :
    c.endWalk (s.passEndPorts ch) = { c with pass := none, urgent := endAdds s ch } := by
  simp [Scheduler.endWalk, foldl_pushUrgent, pending, urgent, State.passEndPorts, attentionPorts_eq, endAdds]

theorem endWalk_of_empty_list (pending : c.pendingExpiry = true) (empty : c.scanLength = 0) :
    c.endWalk (s.passEndPorts ch) = { c with
      pass := none, pendingExpiry := false, passTimer := .running c.passInterval, urgent := endAdds s ch } := by
  simp [Scheduler.endWalk, foldl_pushUrgent, pending, urgent, State.passEndPorts, attentionPorts_eq, endAdds, empty,
    Scheduler.startTimer]

theorem endWalk_of_pending (pending : c.pendingExpiry = true) (filled : 0 < c.scanLength) :
    c.endWalk (s.passEndPorts ch) = { c with
      pass := some ⟨c.scanList.toList.take c.scanLength, 0⟩
      pendingExpiry := false
      passTimer := .running c.passInterval
      urgent := endAdds s ch
      overrun := true } := by
  simp [Scheduler.endWalk, foldl_pushUrgent, pending, urgent, State.passEndPorts, attentionPorts_eq, endAdds, filled,
    Scheduler.startPass]

theorem urgent_endWalk : (c.endWalk (s.passEndPorts ch)).urgent = endAdds s ch := by
  cases pending : c.pendingExpiry
  · rw [endWalk_of_not_pending s ch urgent pending]
  · obtain empty | filled := Nat.eq_zero_or_pos c.scanLength
    · rw [endWalk_of_empty_list s ch urgent pending empty]
    · rw [endWalk_of_pending s ch urgent pending filled]

end

/-- R96 (d): the look after a pass end finds the head of the urgent queue. -/
theorem consultAgain_of_urgent {s : State} {ch : Chan} {c : Scheduler} {p : PortId} {rest : List PortId}
    (urgent : c.urgent = p :: rest) : s.consultAgain ch c = (c, some (.urgent, p)) := by
  simp [State.consultAgain, urgent]

/-- R96 (d): with no pass open the look after a pass end finds the urgent queue's head or nothing. -/
theorem consultAgain_of_closed {s : State} {ch : Chan} {c : Scheduler} (closed : c.pass = none) :
    s.consultAgain ch c = (c, c.urgent.head?.map fun p => (.urgent, p)) := by
  cases urgent : c.urgent <;> simp [State.consultAgain, urgent, closed]

/-- R96 (d): the look after a pass end finds an eligible entry of the pass that the end opened. -/
theorem consultAgain_of_entry {s : State} {ch : Chan} {c : Scheduler} {q : Pass} {n : Nat} {p : PortId} (urgent : c.urgent = [])
    (opened : c.pass = some q) (walked : s.walk ch c = ({ c with pass := some { q with position := n } }, some p)) :
    s.consultAgain ch c = ({ c with pass := some { q with position := n } }, some (.regular, p)) := by
  simp [State.consultAgain, urgent, opened, walked]

/-- R96 (d): the look after a pass end finds no eligible entry of the pass that the end opened, and ends it too. -/
theorem consultAgain_of_no_entry {s : State} {ch : Chan} {c : Scheduler} {q : Pass} (urgent : c.urgent = [])
    (opened : c.pass = some q) (none_left : ∀ p ∈ q.list.drop q.position, (s.port p).activeOn ch = false) :
    s.consultAgain ch c = (c.endWalk (s.passEndPorts ch), none) := by
  obtain ⟨d, walked, same_end⟩ := walk_of_no_entry opened none_left
  simp only [State.consultAgain, urgent, opened, walked, same_end]

/-- R96 (d): the urgent queue after the look that follows a pass end. -/
theorem urgent_consultAgain (s : State) (ch : Chan) {c : Scheduler} (urgent : c.urgent = endAdds s ch) :
    (s.consultAgain ch c).1.urgent = endAdds s ch := by
  unfold State.consultAgain
  split
  · exact urgent
  next empty =>
    split
    · exact urgent
    next opened =>
      have kept : (s.walk ch c).1.urgent = c.urgent := by
        simp only [State.walk, opened]
      split
      next found => rw [found] at kept; exact kept.trans urgent
      next found => rw [found] at kept; exact urgent_endWalk s ch (kept.trans empty)

/-! ### The consultation -/

/-- Settles O31: probe queue, urgent queue, regular entry, and the end of a walk with its look again. -/
theorem consultationFindsWorkInOrder : Obligations.ConsultationFindsWorkInOrder := by
  intro s ch c adds fresh restarted opened
  refine ⟨fun p k rest probes => ?_, rfl, rfl, fun p rest probes urgent => ?_, fun probes urgent closed => ?_,
    fun q probes urgent pass => ⟨fun n p after there active first => ?_, fun none_left => ?_⟩⟩
  · simp only [State.consult, show (s.chan ch).sched.probes = (p, k) :: rest from probes]
    rfl
  · simp only [State.consult, show (s.chan ch).sched.probes = [] from probes,
      show (s.chan ch).sched.urgent = p :: rest from urgent]
    rfl
  · simp only [State.consult, show (s.chan ch).sched.probes = [] from probes,
      show (s.chan ch).sched.urgent = [] from urgent, show (s.chan ch).sched.pass = none from closed]
    rfl
  · simp only [State.consult, show (s.chan ch).sched.probes = [] from probes,
      show (s.chan ch).sched.urgent = [] from urgent, show (s.chan ch).sched.pass = some q from pass]
    rw [walk_of_entry (s := s) (ch := ch) (c := (s.chan ch).sched) pass after there active first]
  · have again : s.consult ch = s.consultAgain ch (c.endWalk (s.passEndPorts ch)) :=
      consult_of_no_entry probes urgent pass fun p hp =>
        have ⟨n, after, at_n⟩ := exists_index_of_mem_drop hp
        none_left n p after at_n
    refine ⟨fun pending => ?_, fun pending empty => ?_, fun pending filled => ⟨fun p rest head => ?_, fun none_added =>
      ⟨fun n p there active first => ?_, fun none_fresh => ?_⟩⟩, fun p => ?_⟩
    · rw [again, endWalk_of_not_pending s ch urgent pending]
      exact consultAgain_of_closed rfl
    · rw [again, endWalk_of_empty_list s ch urgent pending empty]
      exact consultAgain_of_closed rfl
    · rw [again, endWalk_of_pending s ch urgent pending filled]
      exact consultAgain_of_urgent head
    · rw [again, endWalk_of_pending s ch urgent pending filled]
      exact consultAgain_of_entry none_added rfl
        (walk_of_entry (q := ⟨fresh, 0⟩) rfl (Nat.zero_le n) there active fun m p' _ below at_m => first m p' below at_m)
    · rw [again, endWalk_of_pending s ch urgent pending filled,
        consultAgain_of_no_entry none_added rfl fun p hp =>
          have ⟨n, _, at_n⟩ := exists_index_of_mem_drop hp
          none_fresh n p at_n,
        endWalk_of_not_pending s ch (by exact none_added) rfl]
      rfl
    · rw [again, urgent_consultAgain s ch (urgent_endWalk s ch urgent)]
      exact mem_endAdds

/-! ### The tick -/

theorem activeOn_tick (r : PortRec) (ch : Chan) : r.tick.activeOn ch = r.activeOn ch := rfl

/-- R80: the attention lines find the same ports before and after the timers of a tick. -/
theorem linePorts_tickTimers (s : State) (ch : Chan) (lines : BitVec 4) :
    linePorts s.tickTimers ch lines = linePorts s ch lines := by
  simp [linePorts, State.tickTimers, State.port, activeOn_tick]

/-- R80: a channel at a tick: its pass-interval timer counted, and the ports of the lines newly active added. -/
def tickedChannel (s : State) (ch : Chan) (newly : BitVec 4) : Channel :=
  { s.chan ch with sched := { (s.chan ch).sched with
    passTimer := (s.chan ch).sched.passTimer.tick
    urgent := addedOnce (s.chan ch).sched.urgent (linePorts s ch newly) } }

/-- R177, R80: the part at a tick, before the notices. -/
def ticked (s : State) (atn : BitVec 4) : State :=
  { s.tickTimers with
    att := { s.att with levels := ~~~atn }
    ch0 := tickedChannel s .ch0 (~~~atn &&& ~~~s.att.levels)
    ch1 := tickedChannel s .ch1 (~~~atn &&& ~~~s.att.levels) }

theorem sample_eq (s : State) (ch : Chan) (newly : BitVec 4) :
    s.sample ch newly = s.setChan ch { s.chan ch with sched := { (s.chan ch).sched with
      urgent := addedOnce (s.chan ch).sched.urgent (linePorts s ch newly) } } := by
  unfold State.sample State.modSched State.modChan
  dsimp only
  rw [foldl_pushUrgent, attentionPorts_eq]

/-- R80, R95: whether the sample of a tick adds a port to a channel's urgent queue. -/
def grownAt (s : State) (atn : BitVec 4) (ch : Chan) : Bool :=
  decide ((s.chan ch).sched.urgent.length <
    (addedOnce (s.chan ch).sched.urgent (linePorts s ch (~~~atn &&& ~~~s.att.levels))).length)

/-- R177, R80: a tick is its timers and its sample, then a notice for each channel whose urgent queue grew, CH0 first. -/
theorem tick_eq (s : State) (atn : BitVec 4) :
    s.tick atn =
      let u0 := if grownAt s atn .ch0 = true then (ticked s atn).notice .ch0 else ticked s atn
      if grownAt s atn .ch1 = true then u0.notice .ch1 else u0 := by
  have lines (ch : Chan) (t : State) (ports : t.pt = s.tickTimers.pt) (sets : t.att = s.att) :
      linePorts t ch (~~~atn &&& ~~~s.att.levels) = linePorts s ch (~~~atn &&& ~~~s.att.levels) := by
    rw [← linePorts_tickTimers s]
    simp only [linePorts, State.port, ports, sets]
    rfl
  have sampled : { (s.tickTimers.sample .ch0 (~~~atn &&& ~~~s.att.levels)).sample .ch1 (~~~atn &&& ~~~s.att.levels) with
      att := { s.att with levels := ~~~atn } } = ticked s atn := by
    rw [sample_eq, sample_eq, lines .ch1, lines .ch0] <;> rfl
  have first : (ticked s atn).noticeIfGrown s.tickTimers .ch0 =
      if grownAt s atn .ch0 = true then (ticked s atn).notice .ch0 else ticked s atn := by
    unfold State.noticeIfGrown grownAt
    simp only [decide_eq_true_eq]
    rfl
  have chan1 : (if grownAt s atn .ch0 = true then (ticked s atn).notice .ch0 else ticked s atn).chan .ch1 =
      tickedChannel s .ch1 (~~~atn &&& ~~~s.att.levels) := by
    split
    · exact (notice_decided (ticked s atn) .ch0).otherChannel
    · rfl
  calc s.tick atn = (({ (s.tickTimers.sample .ch0 (~~~atn &&& ~~~s.att.levels)).sample .ch1 (~~~atn &&& ~~~s.att.levels) with
      att := { s.att with levels := ~~~atn } }).noticeIfGrown s.tickTimers .ch0).noticeIfGrown s.tickTimers .ch1 := rfl
    _ = _ := by
      rw [sampled, first]
      dsimp only
      conv_lhs => unfold State.noticeIfGrown
      rw [chan1]
      unfold grownAt
      simp only [decide_eq_true_eq]
      rfl

theorem countRefresh_eq (e : IndicatorEngine) :
    e.countRefresh = { e with
      refreshCount := if e.refreshCount < 4 then e.refreshCount + 1 else 0
      refreshDue := if e.refreshCount < 4 then e.refreshDue else true } := by
  unfold IndicatorEngine.countRefresh Config.refreshTicks
  by_cases h : e.refreshCount < 4
  · rw [if_neg (by omega), if_pos h, if_pos h]
  · rw [if_pos (by omega), if_neg h, if_neg h]

/-- Settles O32: the vectors are the ticked ones, entry by entry. -/
theorem tickCountsTimersAndSamplesAttention : Obligations.TickCountsTimersAndSamplesAttention := by
  intro s atn running down newly queue tick grown
  refine ⟨mapVec PortRec.tick s.pt.ports, mapVec IndicatorRec.tick s.ie.records, mapVec RateSlot.tick s.ie.slots,
    mapVec FlashMachine.tick s.ie.flash, fun p => by simp; rfl, fun i => by simp; rfl, fun n => by simp; rfl,
    fun p => by simp; rfl, ?_⟩
  intro u u0
  have same : u = ticked s atn := by
    unfold ticked State.tickTimers IndicatorEngine.tick
    rw [countRefresh_eq]
    rfl
  rw [exec_running (fun s => s.tick atn) rfl running, tick_eq, ← same]
  rfl

end Sys2Proof.Laws
end

section
/-! PROOFS. The Channel Arbiter: the turn rule (R97 to R99), the grant taken from its source (R84), and the notice (R95,
R100). -/
namespace Sys2Proof.Laws

open Sys2Proof.Machine Sys2Proof.Safety

/-! ### The turn rule -/

/-- R129, R130: a host unit's members to come end the unit, or one of them takes the channel. -/
theorem hostProceed_cases (s : State) (ch : Chan) (done : List Completion) (todo : List HostTxn) :
    (∃ l, s.hostProceed ch done todo = s.endHost ch l) ∨
      ∃ r : HostRun, s.hostProceed ch done todo = s.modChan ch fun c => c.runHost r := by
  induction todo generalizing done with
  | nil => exact .inl ⟨done, rfl⟩
  | cons t rest ih =>
    unfold State.hostProceed
    split
    · exact ih _
    · exact .inr ⟨_, rfl⟩

/-- R129: what the members of a host unit leave of its channel and of the Port Table. -/
theorem hostProceed_keeps (s : State) (ch : Chan) (done : List Completion) (todo : List HostTxn) :
    ((s.hostProceed ch done todo).chan ch).hostTurn = (s.chan ch).hostTurn ∧
      ((s.hostProceed ch done todo).chan ch).hostQueue = (s.chan ch).hostQueue ∧
      (s.hostProceed ch done todo).pt = s.pt ∧
      (s.hostProceed ch done todo).ht.outstanding = s.ht.outstanding := by
  obtain ⟨l, ended⟩ | ⟨r, ran⟩ := hostProceed_cases s ch done todo
  · rw [ended]
    cases ch <;> exact ⟨rfl, rfl, rfl, rfl⟩
  · rw [ran]
    cases ch <;> exact ⟨rfl, rfl, rfl, rfl⟩

section
variable {s : State} {ch : Chan}

/-- R98: a ready host unit is granted while the counter is above 0, or when the device side has nothing. -/
theorem turnRule_of_host {src : Option Source} {u : List HostTxn} {rest : List (List HostTxn)}
    (ready : (s.chan ch).hostReady = true) (turn : src = none ∨ 0 < (s.chan ch).hostTurn)
    (queue : (s.chan ch).hostQueue = u :: rest) :
    s.turnRule ch src =
      ((s.setChan ch { s.chan ch with hostQueue := rest, hostTurn := (s.chan ch).hostTurn - 1 }).hostProceed ch [] u, true) := by
  have granted : s.grantHost ch =
      (s.setChan ch { s.chan ch with hostQueue := rest, hostTurn := (s.chan ch).hostTurn - 1 }).hostProceed ch [] u := by
    simp only [State.grantHost, queue]
    rfl
  cases src with
  | none => simp only [State.turnRule, ready, if_true, granted]
  | some x =>
    have above : 0 < (s.chan ch).hostTurn := turn.resolve_left nofun
    simp only [State.turnRule, ready, above, decide_true, Bool.and_self, if_true, granted]

/-- R98: the device side is granted when the host side is not ready or its counter is 0. -/
theorem turnRule_of_device {x : Source} (turn : (s.chan ch).hostReady = false ∨ (s.chan ch).hostTurn = 0) :
    s.turnRule ch (some x) = (s.grantDevice ch x, false) := by
  obtain turn | turn := turn <;> simp [State.turnRule, turn]

theorem turnRule_of_nothing (ready : (s.chan ch).hostReady = false) : s.turnRule ch none = (s, false) := by
  simp [State.turnRule, ready]

theorem hostReady_iff (c : Channel) :
    c.hostReady = true ↔ ∃ u rest, c.hostQueue = u :: rest ∧ (c.chainOpen = true → rest ≠ []) := by
  refine ⟨hostQueue_of_ready, fun ⟨u, rest, queue, tail⟩ => ?_⟩
  cases chain : c.chainOpen <;> simp [Channel.hostReady, queue, chain]
  exact List.length_pos_iff.mpr (tail chain)

/-- R98: what a host grant leaves. -/
theorem turnRule_host_keeps {src : Option Source} (ready : (s.chan ch).hostReady = true)
    (turn : src = none ∨ 0 < (s.chan ch).hostTurn) :
    (s.turnRule ch src).2 = true ∧ ((s.turnRule ch src).1.chan ch).hostTurn = (s.chan ch).hostTurn - 1 ∧
      ((s.turnRule ch src).1.chan ch).hostQueue = (s.chan ch).hostQueue.tail ∧ (s.turnRule ch src).1.pt = s.pt ∧
      (s.turnRule ch src).1.ht.outstanding = s.ht.outstanding := by
  obtain ⟨u, rest, queue, -⟩ := hostQueue_of_ready ready
  rw [turnRule_of_host ready turn queue]
  obtain ⟨turn, left, pt, outstanding⟩ := hostProceed_keeps
    (s.setChan ch { s.chan ch with hostQueue := rest, hostTurn := (s.chan ch).hostTurn - 1 }) ch [] u
  refine ⟨rfl, turn.trans ?_, left.trans ?_, pt.trans ?_, outstanding.trans ?_⟩
  · simp
  · simp [queue]
  · simp
  · simp

/-! ### The grant to the device side -/

/-- R84: a channel after the member, the entry or the walk step of a grant has been taken from its source. -/
def deviceTaken (c : Channel) (k : DeviceKind) : Channel :=
  { c with
    hostTurn := c.hostWeight
    sched := { c.sched with
      probes := if k = .probe ∨ k = .presence then c.sched.probes.tail else c.sched.probes
      urgent := if k = .urgent then c.sched.urgent.tail else c.sched.urgent
      pass := if k = .regular then c.sched.pass.map fun q => { q with position := q.position + 1 } else c.sched.pass } }

theorem takeSource_eq (c : Channel) (k : DeviceKind) :
    { c with sched := c.sched.takeSource k, hostTurn := c.hostWeight } = deviceTaken c k := by
  cases k <;> rfl

/-- R53, R62, R85: the job at its first piece. -/
def firstJob (k : DeviceKind) (p : PortId) (b : Binding) (f : Profile) (x : Piece) (rest : List Piece) : Job :=
  { kind := k, port := p, binding := b, profile := f, current := x.kind, access := .start x.loc x.data
    todo := rest, identHigh := none, stale := false }

theorem composeJob_eq {k : DeviceKind} {p : PortId} {b : Binding} {f : Profile} {x : Piece} {rest : List Piece}
    (bound : (s.port p).binding = some b) (installed : s.profile b.profile = some f) (pieces : f.pieces k = x :: rest) :
    s.composeJob k p = some (firstJob k p b f x rest) := by
  simp [State.composeJob, bound, installed, pieces, firstJob]

/-- R84, R109: the grant to the device side composes the job and hands over the first frame of its first piece. -/
theorem grantDevice_eq {k : DeviceKind} {p : PortId} {b : Binding} {f : Profile} {x : Piece} {rest : List Piece}
    (bound : (s.port p).binding = some b) (installed : s.profile b.profile = some f) (pieces : f.pieces k = x :: rest) :
    s.grantDevice ch (k, p) = s.setChan ch (jobHanded (deviceTaken (s.chan ch) k) (firstJob k p b f x rest)) := by
  rw [← takeSource_eq]
  simp only [State.grantDevice, composeJob_eq bound installed pieces]
  rfl

/-- R98: what a grant to the device side leaves. -/
theorem grantDevice_keeps (s : State) (ch : Chan) (x : Source) :
    ((s.grantDevice ch x).chan ch).hostTurn = (s.chan ch).hostWeight ∧
      ((s.grantDevice ch x).chan ch).hostQueue = (s.chan ch).hostQueue := by
  unfold State.grantDevice
  dsimp only
  cases s.composeJob x.1 x.2 <;> cases ch <;> exact ⟨rfl, rfl⟩

end

/-- R113: a frame is handed over without preamble exactly when its profile allows that and its address is established. -/
theorem frameHanded_preamble (c : Channel) (u : HeldUnit) (f : Frame) (mayOmit : Bool) :
    ∃ g, (frameHanded c u f mayOmit).frame = some g ∧ g.rate = none ∧ g.frame = f ∧
      (g.preamble = false ↔ (mayOmit = true ∧ c.established.getLsbD f.device.toNat = true)) :=
  ⟨_, rfl, rfl, rfl, by simp⟩

theorem frame_device (a : Access) (d : BusAddr) : (a.frame d).device = d := by
  unfold Access.frame
  split
  · rfl
  · split <;> rfl
  · split <;> rfl

/-- Settles O34: the host side's turn, the device side's, neither. -/
theorem turnRuleChoosesTheSide : Obligations.TurnRuleChoosesTheSide := by
  intro s ch c
  refine ⟨fun src ready above => turnRule_host_keeps ready (.inr above), fun ready zero => ?_, fun k p turn => ?_,
    turnRule_of_nothing, notice_of_busy⟩
  · obtain ⟨granted, turn, queue, -, -⟩ := turnRule_host_keeps (src := none) ready (.inl rfl)
    exact ⟨granted, turn.trans (by rw [show (s.chan ch).hostTurn = 0 from zero]), queue⟩
  · rw [turnRule_of_device turn]
    obtain ⟨weight, queue⟩ := grantDevice_keeps s ch (k, p)
    refine ⟨rfl, weight, queue, fun b f x rest bound installed pieces => ?_⟩
    rw [grantDevice_eq bound installed pieces, State.chan_setChan_self]
    refine ⟨rfl, ?_⟩
    obtain ⟨g, handed, waiting, frame, preamble⟩ := frameHanded_preamble (deviceTaken c k) (.job (firstJob k p b f x rest))
      ((Access.start x.loc x.data).frame b.device) f.preamble
    rw [frame_device] at preamble
    exact ⟨g, handed, waiting, frame, preamble⟩

/-! ### The notice -/

/-- R95, R100: where the arbiter may decide, a notice is one decision, and a notice again after a host unit granted. -/
theorem notice_step {s : State} {ch : Chan} (may : s.mayDecide ch = true) :
    s.notice ch = if (s.decideOnce ch).2 = true then (s.decideOnce ch).1.notice ch else (s.decideOnce ch).1 := by
  have once : s.notice ch =
      if (s.decideOnce ch).2 = true then (s.decideOnce ch).1.decideLoop ch (s.chan ch).hostQueue.length
      else (s.decideOnce ch).1 := by
    simp only [State.notice, State.decideLoop, may, if_true]
  rw [once]
  obtain ⟨-, -, same⟩ | ⟨x, -, device⟩ | ⟨u, rest, queue, -, host⟩ := decideOnce_cases s ch
  · simp [same]
  · simp [device]
  · have left : ((s.decideOnce ch).1.chan ch).hostQueue = rest := by
      rw [host]
      refine (hostProceed_keeps _ ch [] u).2.1.trans ?_
      simp [hostGranted]
    rw [State.notice, left, queue, List.length_cons]

/-- R34, R38: the marker reads, as an optional piece. -/
theorem markerReads_eq (f : Profile) :
    f.markerReads = (f.marker.map fun m => Piece.mk .markerRead m.loc none).toList := by
  unfold Profile.markerReads
  cases f.marker <;> rfl

/-- R53: the pieces of a probe after those of the identity. -/
theorem pieces_probe (f : Profile) :
    f.pieces .probe = f.identPieces ++ (f.setup.map (fun w => ⟨.setup, w.loc, some w.value⟩) ++
      (f.marker.map fun m => Piece.mk .markerWrite m.loc (some m.value)).toList ++ f.markerReads ++ f.fetchPieces) := by
  have writes : f.writePieces = f.setup.map (fun w => Piece.mk .setup w.loc (some w.value)) ++
      (f.marker.map fun m => Piece.mk .markerWrite m.loc (some m.value)).toList := by
    unfold Profile.writePieces
    cases f.marker <;> rfl
  simp only [Profile.pieces, writes, List.append_assoc]

theorem length_identPieces (f : Profile) : f.identPieces.length = if f.identity.isSome = true then 2 else 0 := by
  unfold Profile.identPieces
  cases f.identity <;> rfl

/-- Settles O35: when the arbiter decides, what each grant does, and the pieces of each kind of job. -/
theorem noticeDecidesUntilNothingIsGranted : Obligations.NoticeDecidesUntilNothingIsGranted := by
  refine ⟨fun s ch => ⟨mayDecide_iff s ch, notice_of_busy, notice_step⟩, fun s ch => ⟨hostReady_iff _,
    fun k p b f x rest turn bound installed pieces => ?_, fun src u rest ready turn queue => turnRule_of_host ready turn queue,
    turnRule_of_nothing⟩, fun f => ?_⟩
  · rw [turnRule_of_device turn, grantDevice_eq bound installed pieces]
    rfl
  · intro fetches marks
    refine ⟨?_, ?_, fun hi lo identity => ⟨?_, ?_⟩, fun unread e rest plan => ?_, ?_⟩
    · simp only [Profile.pieces, markerReads_eq]
      rfl
    · simp only [Profile.pieces, markerReads_eq]
      rfl
    · simp [Profile.pieces, Profile.presencePieces, identity]
    · simp [Profile.pieces, Profile.identPieces, identity]
    · simp [Profile.pieces, Profile.presencePieces, unread, plan]
    · rw [pieces_probe, ← length_identPieces, List.drop_left, markerReads_eq]
      rfl

end Sys2Proof.Laws
end

section
/-! PROOFS. The Profile Store: the fetch plan (R38) and the checks of PROFILE_LOAD (R42). -/
namespace Sys2Proof.Laws

open Sys2Proof.Machine Sys2Proof.Safety

/-! ### Items in order -/

theorem items_in_order : Item.all.Pairwise fun i k => i.index < k.index := by decide

theorem Item.mem_all (i : Item) : i ∈ Item.all := by cases i <;> decide

theorem Item.index_injective : Function.Injective Item.index := by
  intro i k h
  rw [← Option.some_inj, ← itemOf_index i, ← itemOf_index k, h]

/-- The first item in item order that meets a test. -/
theorem find?_items {test : Item → Bool} {i : Item} :
    Item.all.find? test = some i ↔ test i = true ∧ ∀ k : Item, k.index < i.index → test k = false := by
  have first {j : Item} (found : Item.all.find? test = some j) : test j = true ∧ ∀ k : Item, k.index < j.index → test k = false := by
    obtain ⟨holds, before, after, split, fails⟩ := List.find?_eq_some_iff_append.mp found
    refine ⟨holds, fun k below => ?_⟩
    have order := items_in_order
    rw [split, List.pairwise_append, List.pairwise_cons] at order
    have place := Item.mem_all k
    rw [split, List.mem_append, List.mem_cons] at place
    obtain there | rfl | there := place
    · simpa using fails k there
    · exact absurd below (lt_irrefl _)
    · exact absurd below (lt_asymm (order.2.1.1 k there))
  refine ⟨first, fun ⟨holds, earlier⟩ => ?_⟩
  cases found : Item.all.find? test with
  | none => exact absurd holds (List.find?_eq_none.mp found i (Item.mem_all i))
  | some j =>
    obtain ⟨met, minimal⟩ := first found
    obtain below | same | above := lt_trichotomy j.index i.index
    · simp [earlier j below] at met
    · rw [Item.index_injective same]
    · simp [minimal i above] at holds

/-! ### The fetch plan -/

/-- R38: locations added one after another, each unless it is there. -/
def distinct (l : List Location) : List Location := l.foldl (fun acc a => if a ∈ acc then acc else acc ++ [a]) []

theorem distinct_concat (l : List Location) (a : Location) :
    distinct (l ++ [a]) = if a ∈ distinct l then distinct l else distinct l ++ [a] := by
  rw [distinct, List.foldl_append]
  rfl

theorem mem_distinct {l : List Location} {a : Location} : a ∈ distinct l ↔ a ∈ l := by
  induction l using List.reverseRecOn generalizing a with
  | nil => simp [distinct]
  | append_singleton l b ih =>
    rw [distinct_concat]
    split
    case isTrue there =>
      have there := ih.mp there
      simp only [ih, List.mem_append, List.mem_singleton]
      exact ⟨.inl, fun h => h.elim id fun same => same ▸ there⟩
    case isFalse => simp [ih]

theorem nodup_distinct (l : List Location) : (distinct l).Nodup := by
  induction l using List.reverseRecOn with
  | nil => exact List.nodup_nil
  | append_singleton l b ih =>
    rw [distinct_concat]
    split
    · exact ih
    case isFalse new => exact List.nodup_append.mpr ⟨ih, List.nodup_singleton b, by
      rintro a there c only rfl
      rw [List.mem_singleton] at only
      exact new (only ▸ there)⟩

theorem length_distinct_le (l : List Location) : (distinct l).length ≤ l.length := by
  induction l using List.reverseRecOn with
  | nil => simp [distinct]
  | append_singleton l b ih =>
    rw [distinct_concat]
    split <;> simp <;> omega

/-- R38: some item of the list stands at the first location before every item of the list at the second. -/
def Before (loc : Item → Option Location) (l : List Item) (a b : Location) : Prop :=
  ∃ i ∈ l, loc i = some a ∧ ∀ k ∈ l, loc k = some b → i.index < k.index

/-- R38: the locations of a list of items in item order are in the order of the first item that each serves. -/
theorem distinct_in_order (loc : Item → Option Location) (l : List Item) (order : l.Pairwise fun i k => i.index < k.index) :
    (distinct (l.filterMap loc)).Pairwise (Before loc l) := by
  induction l using List.reverseRecOn with
  | nil => exact List.Pairwise.nil
  | append_singleton l a ih =>
    obtain ⟨inner, -, last⟩ := List.pairwise_append.mp order
    have below : ∀ i ∈ l, i.index < a.index := fun i hi => last i hi a (List.mem_singleton_self a)
    have still : (distinct (l.filterMap loc)).Pairwise (Before loc (l ++ [a])) := by
      refine (ih inner).imp fun {x y} ⟨i, hi, at_x, first⟩ => ⟨i, List.mem_append_left _ hi, at_x, fun k hk at_y => ?_⟩
      obtain hk | hk := List.mem_append.mp hk
      · exact first k hk at_y
      · rw [List.mem_singleton.mp hk]
        exact below i hi
    rw [List.filterMap_append]
    cases there : loc a with
    | none => simpa [there] using still
    | some x =>
      have one : [a].filterMap loc = [x] := by simp [there]
      rw [one, distinct_concat]
      split
      · exact still
      case isFalse new =>
        refine List.pairwise_append.mpr ⟨still, List.pairwise_singleton .., fun y hy z hz => ?_⟩
        obtain ⟨i, hi, at_y⟩ := List.mem_filterMap.mp (mem_distinct.mp hy)
        rw [List.mem_singleton.mp hz]
        refine ⟨i, List.mem_append_left _ hi, at_y, fun k hk at_x => ?_⟩
        obtain hk | hk := List.mem_append.mp hk
        · exact absurd (mem_distinct.mpr (List.mem_filterMap.mpr ⟨k, hk, at_x⟩)) new
        · rw [List.mem_singleton.mp hk]
          exact below i hi

section
variable (recipe : Item → Option Recipe)

/-- The location of an item's recipe. -/
def locOf (i : Item) : Option Location := (recipe i).map Recipe.loc

theorem planLocations_eq : planLocations recipe = distinct (Item.all.filterMap (locOf recipe)) := rfl

theorem mem_planLocations {l : Location} : l ∈ planLocations recipe ↔ ∃ i, locOf recipe i = some l := by
  simp [planLocations_eq, mem_distinct, Item.mem_all]

theorem mem_servedItems {l : Location} {i : Item} : i ∈ servedItems recipe l ↔ locOf recipe i = some l := by
  simp [servedItems, Item.mem_all, locOf]

theorem servedItems_in_order (l : Location) : ((servedItems recipe l).map Item.index).Pairwise (· < ·) :=
  List.pairwise_map.mpr (items_in_order.filter _)

/-- R38: the first item at a location of the plan. -/
theorem servedItems_first {l : Location} {i : Item} (there : locOf recipe i = some l) :
    ∃ k, ((servedItems recipe l).map Item.index).headD 8 = k.index ∧ locOf recipe k = some l ∧
      ∀ j, locOf recipe j = some l → k.index ≤ j.index := by
  have order := servedItems_in_order recipe l
  have members := fun j => mem_servedItems recipe (l := l) (i := j)
  cases served : servedItems recipe l with
  | nil => simpa [served] using (members i).mpr there
  | cons k rest =>
    rw [served, List.map_cons, List.pairwise_cons] at order
    refine ⟨k, rfl, (members k).mp (by simp [served]), fun j at_l => ?_⟩
    have place := (members j).mpr at_l
    rw [served, List.mem_cons] at place
    obtain rfl | later := place
    · exact le_rfl
    · exact le_of_lt (order.1 _ (List.mem_map_of_mem later))

theorem confirmCapable_iff (l : Location) :
    confirmCapable recipe l = true ↔
      ∃ i ∈ servedItems recipe l, ∃ r, recipe i = some r ∧ r.latching = true ∧ r.confirm = true := by
  rw [confirmCapable, List.any_eq_true]
  refine exists_congr fun i => and_congr_right fun _ => ?_
  cases recipe i <;> simp

end

/-- Settles O26: the locations are distinct, each with the items at it, in the order of their first items. -/
theorem fetchPlanCoversEveryItemOnce : Obligations.FetchPlanCoversEveryItemOnce := by
  intro recipe plan
  have locations : plan.map PlanEntry.loc = planLocations recipe := by
    simp only [plan, fetchPlan, List.map_map]
    exact List.map_id' _
  refine ⟨?_, ?_, fun i r present => ?_, fun e entry => ?_, ?_⟩
  · rw [locations]
    exact nodup_distinct _
  · rw [← List.length_map (f := PlanEntry.loc), locations]
    exact (length_distinct_le _).trans (List.length_filterMap_le ..)
  · have there : locOf recipe i = some r.loc := by simp [locOf, present]
    exact ⟨_, List.mem_map_of_mem ((mem_planLocations recipe).mpr ⟨i, there⟩), rfl, (mem_servedItems recipe).mpr there⟩
  · obtain ⟨l, location, rfl⟩ := List.mem_map.mp entry
    obtain ⟨i, there⟩ := (mem_planLocations recipe).mp location
    exact ⟨List.ne_nil_of_mem ((mem_servedItems recipe).mpr there), fun k => mem_servedItems recipe,
      servedItems_in_order recipe l, confirmCapable_iff recipe l⟩
  · have order := distinct_in_order (locOf recipe) Item.all items_in_order
    rw [← planLocations_eq] at order
    simp only [plan, fetchPlan, List.map_map]
    refine List.pairwise_map.mpr (order.imp_of_mem fun {x y} _ in_plan ⟨i, _, at_x, before⟩ => ?_)
    obtain ⟨j, at_y⟩ := (mem_planLocations recipe).mp in_plan
    obtain ⟨k, head_x, -, least⟩ := servedItems_first recipe at_x
    obtain ⟨m, head_y, at_y', -⟩ := servedItems_first recipe at_y
    simp only [Function.comp_apply, head_x, head_y]
    exact (least i at_x).trans_lt (before m (Item.mem_all m) at_y')

/-! ### The checks of PROFILE_LOAD -/

/-- R42: the check of each number, in the order of Figure 2-8. -/
def checkOf (g : Staging) : Nat → Option CheckFailure
  | 1 => named 1 (g.firstFailing fun _ r => decide (r.width = 0) || decide (16 < r.low + r.width))
  | 2 => named 2 (g.firstFailing fun i r => i.oneBit && decide (r.width ≠ 1))
  | 3 => named 3 (g.firstFailing fun i r => decide (i = .speed) && decide (r.width ≠ 1) && decide (r.width ≠ 2))
  | 4 => named 4 (g.firstFailing fun i r => decide (i = .count) && decide (r.width ≠ 16))
  | 5 => named 5 (g.firstFailing fun i r => !i.mayLatch r.latch)
  | 6 => named 6 (g.firstFailing fun _ r => r.confirm && !r.latching)
  | 7 => if g.partnerEarly then some (7, some .partner) else none
  | 8 => if g.identPresent && (decide (g.identHigh.method ≠ .direct) || decide (g.identLow.method ≠ .direct))
      then some (8, none) else none
  | 9 => named 9 (match g.markerStep with
      | some m => g.firstFailing fun _ r => decide (r.loc = m.loc)
      | none => none)
  | 10 => if Item.all.all fun i => (g.recipe i).isNone then some (10, none) else none
  | _ => none

theorem check_eq (g : Staging) : g.check = (List.range' 1 10).findSome? (checkOf g) := rfl

/-- The first result of numbered checks that each carry their own number. -/
theorem findSome?_range' {α : Type} {f : Nat → Option (Nat × α)} (own : ∀ n x, f n = some x → x.1 = n) (x : Nat × α)
    (start count : Nat) :
    (List.range' start count).findSome? f = some x ↔
      start ≤ x.1 ∧ x.1 < start + count ∧ f x.1 = some x ∧ ∀ m, start ≤ m → m < x.1 → f m = none := by
  induction count generalizing start with
  | zero => simp; omega
  | succ count ih =>
    rw [List.range'_succ, List.findSome?_cons]
    cases here : f start with
    | some y =>
      have number := own start y here
      constructor
      · rintro ⟨⟩
        exact ⟨number.ge, by omega, number ▸ here, fun m _ _ => by omega⟩
      · rintro ⟨above, -, there, earlier⟩
        obtain above | same := above.lt_or_eq
        · simp [earlier start le_rfl above] at here
        · rw [← here, same, there]
    | none =>
      rw [ih (start + 1)]
      constructor
      · rintro ⟨above, inside, there, earlier⟩
        refine ⟨by omega, by omega, there, fun m from_start below => ?_⟩
        obtain later | rfl := from_start.lt_or_eq
        · exact earlier m later below
        · exact here
      · rintro ⟨above, inside, there, earlier⟩
        obtain above | same := above.lt_or_eq
        · exact ⟨above, by omega, there, fun m later => earlier m (by omega)⟩
        · simp [← same, here] at there

theorem named_eq_some {n : Nat} {found : Option Item} {x : CheckFailure} :
    named n found = some x ↔ ∃ i, found = some i ∧ x = (n, some i) := by
  cases found <;> simp [named, eq_comm]

theorem number_of_ite {P : Prop} [Decidable P] {n : Nat} {item : Option Item} {x : CheckFailure}
    (h : (if P then some (n, item) else none) = some x) : x.1 = n := by
  split at h
  · rw [← Option.some.inj h]
  · simp at h

theorem checkOf_number (g : Staging) (n : Nat) (x : CheckFailure) (h : checkOf g n = some x) : x.1 = n := by
  unfold checkOf at h
  split at h
  case h_7 => exact number_of_ite h
  case h_8 => exact number_of_ite h
  case h_10 => exact number_of_ite h
  case h_11 => simp at h
  all_goals
    obtain ⟨i, -, rfl⟩ := named_eq_some.mp h
    rfl

theorem check_eq_some (g : Staging) (x : CheckFailure) :
    g.check = some x ↔ 1 ≤ x.1 ∧ x.1 < 11 ∧ checkOf g x.1 = some x ∧ ∀ m, 1 ≤ m → m < x.1 → checkOf g m = none := by
  rw [check_eq, findSome?_range' (checkOf_number g)]

theorem check_eq_none (g : Staging) : g.check = none ↔ ∀ n, 1 ≤ n → n < 11 → checkOf g n = none := by
  rw [check_eq, List.findSome?_eq_none_iff]
  simp [List.mem_range'_1]

/-! ### The checks of the recipes -/

theorem firstFailing_eq_some {g : Staging} {fails : Item → Recipe → Bool} {i : Item} :
    g.firstFailing fails = some i ↔ (∃ r, g.recipe i = some r ∧ fails i r = true) ∧
      ∀ k r, k.index < i.index → g.recipe k = some r → fails k r = false := by
  unfold Staging.firstFailing
  rw [find?_items]
  refine and_congr ?_ (forall_congr' fun k => ?_)
  · cases g.recipe i <;> simp
  · cases g.recipe k <;> simp

theorem firstFailing_eq_none {g : Staging} {fails : Item → Recipe → Bool} :
    g.firstFailing fails = none ↔ ∀ i r, g.recipe i = some r → fails i r = false := by
  unfold Staging.firstFailing
  rw [List.find?_eq_none]
  refine ⟨fun h i r present => by simpa [present] using h i (Item.mem_all i), fun h i _ => ?_⟩
  cases present : g.recipe i with
  | none => simp
  | some r => simp [h i r present]

theorem oneBit_iff (i : Item) : i.oneBit = true ↔ i ∈ [Item.link, .neg, .duplex, .rfault, .energy] := by
  cases i <;> decide

theorem mayLatch_iff (i : Item) (k : LatchKind) :
    i.mayLatch k = true ↔ (k = .plain ∧ i ≠ .count ∨ k = .latchLow ∧ i = .link ∨ k = .latchHigh ∧ i = .rfault ∨
      k = .clearOnRead ∧ i = .count) := by
  cases i <;> cases k <;> decide

/-- R42: the checks that name an item. -/
def itemChecks : List Nat := [1, 2, 3, 4, 5, 6, 9]

/-- R42: a check of the recipes finds the first item that fails it. -/
theorem checkOf_recipes {g : Staging} {n : Nat} (h : n ∈ itemChecks) :
    ∃ fails : Item → Recipe → Bool, checkOf g n = named n (g.firstFailing fails) ∧
      ∀ i r, fails i r = true ↔ checkFails g n i r := by
  simp only [itemChecks, List.mem_cons, List.not_mem_nil, or_false] at h
  obtain rfl | rfl | rfl | rfl | rfl | rfl | rfl := h
  · exact ⟨_, rfl, fun i r => by simp [checkFails]⟩
  · exact ⟨_, rfl, fun i r => by rw [Bool.and_eq_true, oneBit_iff]; simp [checkFails]⟩
  · exact ⟨_, rfl, fun i r => by simp [checkFails, and_assoc]⟩
  · exact ⟨_, rfl, fun i r => by simp [checkFails]⟩
  · exact ⟨_, rfl, fun i r => by rw [Bool.not_eq_true', ← Bool.not_eq_true, mayLatch_iff]; rfl⟩
  · exact ⟨_, rfl, fun i r => by simp [checkFails, Recipe.latching]⟩
  · refine ⟨fun _ r => g.markerPresent && decide (r.loc = g.marker.step.loc), ?_, fun i r => by simp [checkFails]⟩
    have none_fails : g.firstFailing (fun _ _ => false) = none := firstFailing_eq_none.mpr fun _ _ _ => rfl
    cases present : g.markerPresent <;> simp [checkOf, Staging.markerStep, present, none_fails]

theorem checkPasses_of_recipes (g : Staging) {n : Nat} (h : n ∈ itemChecks) :
    checkPasses g n ↔ ∀ i r, g.recipe i = some r → ¬checkFails g n i r := by
  simp only [itemChecks, List.mem_cons, List.not_mem_nil, or_false] at h
  obtain rfl | rfl | rfl | rfl | rfl | rfl | rfl := h <;> rfl

/-- R42: the check of the order of PARTNER and NEG. -/
theorem partnerEarly_iff (g : Staging) : g.partnerEarly = false ↔ checkPasses g 7 := by
  unfold Staging.partnerEarly
  have loc {i : Item} {c : Recipe} (present : g.recipe i = some c) : locOf g.recipe i = some c.loc := by
    simp [locOf, present]
  have recipe {i : Item} {l : Location} (there : locOf g.recipe i = some l) : ∃ c, g.recipe i = some c ∧ c.loc = l :=
    Option.map_eq_some_iff.mp there
  cases partner : g.recipe .partner with
  | none => simp [checkPasses, partner]
  | some p =>
    cases neg : g.recipe .neg with
    | none => simp [checkPasses, partner, neg]
    | some n =>
      obtain ⟨i, head_p, at_p, least_p⟩ := servedItems_first g.recipe (loc partner)
      obtain ⟨j, head_n, at_n, least_n⟩ := servedItems_first g.recipe (loc neg)
      simp only [Staging.planIndex, head_p, head_n, decide_eq_false_iff_not, not_lt, checkPasses, partner, neg,
        Option.some.injEq, forall_eq', exists_eq_left']
      constructor
      · intro le
        obtain ⟨c, present, same⟩ := recipe at_n
        exact ⟨j, c, present, same, fun k d there same => le.trans (least_p k (same ▸ loc there))⟩
      · rintro ⟨k, c, present, same, first⟩
        obtain ⟨d, there, same'⟩ := recipe at_p
        exact (least_n k (same ▸ loc present)).trans (first i d there same')

/-- R42: a check passes exactly when it finds no failure. -/
theorem checkOf_eq_none (g : Staging) {n : Nat} (from_one : 1 ≤ n) (to_ten : n < 11) :
    checkOf g n = none ↔ checkPasses g n := by
  by_cases recipes : n ∈ itemChecks
  · obtain ⟨fails, is_check, iff⟩ := checkOf_recipes (g := g) recipes
    rw [is_check, checkPasses_of_recipes g recipes, named, Option.map_eq_none_iff, firstFailing_eq_none]
    simp only [← iff, Bool.not_eq_true]
  · have others : n = 7 ∨ n = 8 ∨ n = 10 := by
      simp only [itemChecks, List.mem_cons, List.not_mem_nil, or_false] at recipes
      omega
    obtain rfl | rfl | rfl := others
    · rw [← partnerEarly_iff]
      simp [checkOf]
    · simp only [checkOf, checkPasses]
      cases g.identPresent <;> simp
    · simp only [checkOf, checkPasses]
      simp [Item.mem_all, Option.ne_none_iff_exists']

/-- R42: the rules of a present recipe, from the checks 1 to 6. -/
theorem recipe_checks_iff (g : Staging) (i : Item) (r : Recipe) :
    (∀ n ∈ [1, 2, 3, 4, 5, 6], ¬checkFails g n i r) ↔
      (1 ≤ r.width ∧ r.low + r.width ≤ 16 ∧
        (i ∈ [Item.link, .neg, .duplex, .rfault, .energy] → r.width = 1) ∧
        (i = .speed → r.width = 1 ∨ r.width = 2) ∧
        (i = .count → r.width = 16 ∧ r.latch = .clearOnRead) ∧
        (i = .link → r.latch = .plain ∨ r.latch = .latchLow) ∧
        (i = .rfault → r.latch = .plain ∨ r.latch = .latchHigh) ∧
        (i ∈ [Item.neg, .speed, .duplex, .partner, .energy] → r.latch = .plain) ∧
        (r.confirm = true → r.latch = .latchLow ∨ r.latch = .latchHigh)) := by
  have width : ¬(r.width = 0 ∨ 16 < r.low + r.width) ↔ 1 ≤ r.width ∧ r.low + r.width ≤ 16 := by omega
  have confirm : ¬(r.confirm = true ∧ r.latch ≠ .latchLow ∧ r.latch ≠ .latchHigh) ↔
      (r.confirm = true → r.latch = .latchLow ∨ r.latch = .latchHigh) := by tauto
  simp only [List.forall_mem_cons, List.not_mem_nil, false_implies, implies_true, and_true, checkFails, width, confirm,
    and_assoc]
  refine and_congr_right fun _ => and_congr_right fun _ => ?_
  cases i <;> cases r.latch <;> simp
  tauto

/-- R42: every check passes exactly when the recipes keep their rules and the checks 7 to 10 pass. -/
theorem all_checks_iff (g : Staging) :
    (∀ m, 1 ≤ m → m < 11 → checkPasses g m) ↔
      (∀ i r, g.recipe i = some r → ∀ n ∈ [1, 2, 3, 4, 5, 6], ¬checkFails g n i r) ∧
        checkPasses g 7 ∧ checkPasses g 8 ∧ checkPasses g 9 ∧ checkPasses g 10 := by
  constructor
  · refine fun all => ⟨fun i r present n recipes => ?_, all 7 (by decide) (by decide), all 8 (by decide) (by decide),
      all 9 (by decide) (by decide), all 10 (by decide) (by decide)⟩
    have bounds : 1 ≤ n ∧ n < 11 := by
      simp only [List.mem_cons, List.not_mem_nil, or_false] at recipes
      omega
    refine (checkPasses_of_recipes g ?_).mp (all n bounds.1 bounds.2) i r present
    simp only [itemChecks, List.mem_cons, List.not_mem_nil, or_false] at recipes ⊢
    omega
  · rintro ⟨recipes, order, ident, marker, some_item⟩ m from_one to_ten
    have number : m < 7 ∨ m = 7 ∨ m = 8 ∨ m = 9 ∨ m = 10 := by omega
    obtain early | rfl | rfl | rfl | rfl := number
    · interval_cases m <;> exact fun i r present => recipes i r present _ (by decide)
    · exact order
    · exact ident
    · exact marker
    · exact some_item

/-- R42: a check of one failure finds it exactly when it does not pass. -/
theorem checkOf_of_single {g : Staging} {n : Nat} {item : Option Item}
    (single : (n, item) ∈ [(7, some Item.partner), (8, none), (10, none)]) :
    1 ≤ n ∧ n < 11 ∧ (checkOf g n = some (n, item) ↔ ¬checkPasses g n) := by
  have found {P : Prop} [Decidable P] {x : CheckFailure} :
      (if P then some x else none) = some x ↔ ¬(if P then some x else none) = none := by
    by_cases P <;> simp [*]
  simp only [List.mem_cons, List.not_mem_nil, or_false, Prod.mk.injEq] at single
  obtain ⟨rfl, rfl⟩ | ⟨rfl, rfl⟩ | ⟨rfl, rfl⟩ := single
  · exact ⟨by decide, by decide, found.trans (not_congr (checkOf_eq_none g (n := 7) (by decide) (by decide)))⟩
  · exact ⟨by decide, by decide, found.trans (not_congr (checkOf_eq_none g (n := 8) (by decide) (by decide)))⟩
  · exact ⟨by decide, by decide, found.trans (not_congr (checkOf_eq_none g (n := 10) (by decide) (by decide)))⟩

/-- Settles O25: the checks by their numbers, then the parts of the profile installed. -/
theorem checkedStagingRecordIsSound : Obligations.CheckedStagingRecordIsSound := by
  intro g
  have earlier {n : Nat} (last : n ≤ 11) : (∀ m, 1 ≤ m → m < n → checkOf g m = none) ↔ ∀ m, 1 ≤ m → m < n → checkPasses g m :=
    forall_congr' fun m => forall_congr' fun from_one => forall_congr' fun below =>
      checkOf_eq_none g from_one (below.trans_le last)
  refine ⟨?_, fun n recipes i => ?_, fun n item single => ?_, fun i => by cases i <;> rfl, rfl, rfl, rfl, rfl, rfl, rfl,
    fun i => rfl, fun l => ⟨fun h => by simp [StagedLoc.location, h], fun h => by simp [StagedLoc.location, h],
      fun h => by simp [StagedLoc.location, h]⟩⟩
  · rw [check_eq_none, earlier le_rfl, all_checks_iff]
    simp only [recipe_checks_iff]
    refine and_congr_right fun _ => and_congr_right fun _ => and_congr_right fun _ => and_congr_left fun _ => ?_
    exact ⟨fun passes present i r there same => passes i r there ⟨present, same⟩,
      fun passes i r there ⟨present, same⟩ => passes present i r there same⟩
  · have bounds : 1 ≤ n ∧ n < 11 := by
      simp only [List.mem_cons, List.not_mem_nil, or_false] at recipes
      omega
    obtain ⟨fails, is_check, iff⟩ := checkOf_recipes (g := g) recipes
    have first : checkOf g n = some (n, some i) ↔ g.firstFailing fails = some i := by
      rw [is_check, named_eq_some]
      simp
    rw [check_eq_some]
    dsimp only
    rw [earlier bounds.2.le, first, firstFailing_eq_some]
    simp only [bounds, true_and, ← iff, Bool.not_eq_true]
    exact and_comm
  · obtain ⟨from_one, to_ten, found⟩ := checkOf_of_single (g := g) single
    rw [check_eq_some]
    dsimp only
    rw [earlier to_ten.le, found]
    simp only [from_one, to_ten, true_and]
    exact and_comm

end Sys2Proof.Laws
end

section
/-! PROOFS. The staging words (R40, R181): what a written word reads back, field by field, and what it leaves. -/
namespace Sys2Proof.Laws

open Sys2Proof.Machine Sys2Proof.Safety

/-! ### Fields of masked words -/

theorem testBit_bits (w : Word) (low width k : Nat) : (bits w low width).testBit k = (decide (k < width) && w.getLsbD (low + k)) := by
  simp [bits, Nat.testBit_mod_two_pow, Nat.testBit_div_two_pow, BitVec.getLsbD, Nat.add_comm]

theorem bits_and (a b : Word) (low width : Nat) : bits (a &&& b) low width = bits a low width &&& bits b low width := by
  refine Nat.eq_of_testBit_eq fun k => ?_
  simp only [testBit_bits, Nat.testBit_and, BitVec.getLsbD_and]
  cases decide (k < width) <;> simp

theorem bits_or (a b : Word) (low width : Nat) : bits (a ||| b) low width = bits a low width ||| bits b low width := by
  refine Nat.eq_of_testBit_eq fun k => ?_
  simp only [testBit_bits, Nat.testBit_or, BitVec.getLsbD_or]
  cases decide (k < width) <;> simp

theorem bits_lt (w : Word) (low width : Nat) : bits w low width < 2 ^ width := Nat.mod_lt _ (Nat.two_pow_pos width)

/-- A mask that holds the field keeps it. -/
theorem bits_and_of_full {m : Word} {low width : Nat} (v : Word) (full : bits m low width = 2 ^ width - 1) :
    bits (v &&& m) low width = bits v low width := by
  rw [bits_and, full, Nat.and_two_pow_sub_one_eq_mod, Nat.mod_eq_of_lt (bits_lt ..)]

/-- A mask that leaves the field out reads 0 there. -/
theorem bits_and_of_empty {m : Word} {low width : Nat} (v : Word) (empty : bits m low width = 0) :
    bits (v &&& m) low width = 0 := by
  rw [bits_and, empty, Nat.and_zero]

/-- Two words merged by masks hold, in each field, that of the word whose mask holds it. -/
theorem bits_merge_first {m k : Word} {low width : Nat} (v w : Word) (full : bits m low width = 2 ^ width - 1)
    (empty : bits k low width = 0) : bits ((v &&& m) ||| (w &&& k)) low width = bits v low width := by
  rw [bits_or, bits_and_of_full v full, bits_and_of_empty w empty, Nat.or_zero]

theorem bits_merge_second {m k : Word} {low width : Nat} (v w : Word) (empty : bits m low width = 0)
    (full : bits k low width = 2 ^ width - 1) : bits ((v &&& m) ||| (w &&& k)) low width = bits w low width := by
  rw [bits_or, bits_and_of_empty v empty, bits_and_of_full w full, Nat.zero_or]

theorem bits_merge_neither {m k : Word} {low width : Nat} (v w : Word) (empty : bits m low width = 0)
    (empty' : bits k low width = 0) : bits ((v &&& m) ||| (w &&& k)) low width = 0 := by
  rw [bits_or, bits_and_of_empty v empty, bits_and_of_empty w empty', Nat.or_zero]

/-- Words that agree in fields that cover all 16 bits are the same. -/
theorem eq_of_fields {a b : Word} (cuts : List (Nat × Nat)) (cover : ∀ j < 16, ∃ c ∈ cuts, c.1 ≤ j ∧ j < c.1 + c.2)
    (same : ∀ c ∈ cuts, bits a c.1 c.2 = bits b c.1 c.2) : a = b := by
  refine BitVec.eq_of_getLsbD_eq fun j inside => ?_
  obtain ⟨c, cut, above, below⟩ := cover j inside
  have field := congrArg (fun n => n.testBit (j - c.1)) (same c cut)
  simpa [testBit_bits, Nat.add_sub_cancel' above, show j - c.1 < c.2 by omega] using field

theorem bitN_bit (v : Word) (n : Nat) : bitN (bit v n) = bits v n 1 := by
  unfold bitN bit bits
  rw [BitVec.getLsbD, Nat.testBit_eq_decide_div_mod_eq, pow_one]
  have small := Nat.mod_lt (v.toNat / 2 ^ n) Nat.two_pos
  simp only [decide_eq_true_eq]
  split <;> omega

theorem toNat_extract (v : Word) (low width : Nat) : (v.extractLsb' low width).toNat = bits v low width := by
  rw [BitVec.extractLsb'_toNat, bits, Nat.shiftRight_eq_div_pow]

/-! ### Codes -/

/-- R181: a method code in range is taken. -/
theorem methodOf_code {n : Nat} (h : n ≤ 2) (m : Method) : ((methodOf n).getD m).code = n := by
  interval_cases n <;> rfl

theorem latchOf_code {n : Nat} (h : n < 4) : (latchOf n).code = n := by
  interval_cases n <;> rfl

theorem code_speedOf {n : Nat} (h : n < 4) : (speedOf n).code = n := by
  interval_cases n <;> rfl

theorem polarity_code (b : Bool) : bitN (decide ((if b = true then Polarity.inverted else .normal) = .inverted)) = bitN b := by
  cases b <;> rfl

theorem methodCode_lt (m : Method) : m.code < 4 := by cases m <;> decide

/-! ### The words of a location -/

theorem read_write_loc_of_ne (l : StagedLoc) {n m : Fin 4} (h : m ≠ n) (v : Word) : (l.write n v).read m = l.read m := by
  fin_cases n <;> fin_cases m <;> first | rfl | exact absurd rfl h

/-- R181: the fields of a location word. -/
theorem readWord_fields (l : StagedLoc) :
    bits l.readWord 0 2 = l.method.code ∧ bits l.readWord 2 1 = bitN l.restorePresent ∧ bits l.readWord 3 5 = l.reg.toNat ∧
      bits l.readWord 8 5 = l.second.toNat ∧ bits l.readWord 13 3 = 0 := by
  have method := methodCode_lt l.method
  have restore := bitN_lt l.restorePresent
  have reg := l.reg.isLt
  have second := l.second.isLt
  refine ⟨bits_word (by decide) ?_, bits_word (by decide) ?_, bits_word (by decide) ?_, bits_word (by decide) ?_,
    bits_word (by decide) ?_⟩ <;> simp only [total] <;> omega

/-- The fields of a location word, with the bits that no field takes. -/
def locCuts : List (Nat × Nat) := [(0, 2), (2, 1), (3, 5), (8, 5), (13, 3)]

theorem readWord_writeWord (l : StagedLoc) (v : Word) (h : bits v 0 2 ≤ 2) : (l.writeWord v).readWord = v &&& 0x1FFF := by
  obtain ⟨method, restore, reg, second, unused⟩ := readWord_fields (l.writeWord v)
  refine eq_of_fields locCuts (by decide) ?_
  simp only [locCuts, List.forall_mem_cons, List.not_mem_nil, false_implies, implies_true, and_true]
  refine ⟨?_, ?_, ?_, ?_, ?_⟩
  · rw [method, bits_and_of_full v (by decide)]
    exact methodOf_code h _
  · rw [restore, bits_and_of_full v (by decide)]
    exact bitN_bit v 2
  · rw [reg, bits_and_of_full v (by decide)]
    exact toNat_extract v 3 5
  · rw [second, bits_and_of_full v (by decide)]
    exact toNat_extract v 8 5
  · rw [unused, bits_and_of_empty v (by decide)]

theorem readWord_writeWord_of_three (l : StagedLoc) (v : Word) (h : bits v 0 2 = 3) :
    (l.writeWord v).readWord = (v &&& 0x1FFC) ||| (l.readWord &&& 0x0003) := by
  obtain ⟨method, restore, reg, second, unused⟩ := readWord_fields (l.writeWord v)
  refine eq_of_fields locCuts (by decide) ?_
  simp only [locCuts, List.forall_mem_cons, List.not_mem_nil, false_implies, implies_true, and_true]
  refine ⟨?_, ?_, ?_, ?_, ?_⟩
  · rw [method, bits_merge_second v _ (by decide) (by decide), (readWord_fields l).1]
    simp [StagedLoc.writeWord, h, methodOf]
  · rw [restore, bits_merge_first v _ (by decide) (by decide)]
    exact bitN_bit v 2
  · rw [reg, bits_merge_first v _ (by decide) (by decide)]
    exact toNat_extract v 3 5
  · rw [second, bits_merge_first v _ (by decide) (by decide)]
    exact toNat_extract v 8 5
  · rw [unused, bits_merge_neither v _ (by decide) (by decide)]

/-! ### The field word of a recipe -/

theorem readField_fields (r : StagedRecipe) (width : r.width < 32) :
    bits r.readField 0 1 = bitN r.present ∧ bits r.readField 1 4 = r.low.toNat ∧ bits r.readField 5 5 = r.width ∧
      bits r.readField 10 1 = bitN (decide (r.polarity = .inverted)) ∧ bits r.readField 11 2 = r.latch.code ∧
      bits r.readField 13 1 = bitN r.confirm ∧ bits r.readField 14 2 = 0 := by
  have present := bitN_lt r.present
  have low := r.low.isLt
  have polarity := bitN_lt (decide (r.polarity = .inverted))
  have latch : r.latch.code < 4 := by cases r.latch <;> decide
  have confirm := bitN_lt r.confirm
  refine ⟨bits_word (by decide) ?_, bits_word (by decide) ?_, bits_word (by decide) ?_, bits_word (by decide) ?_,
    bits_word (by decide) ?_, bits_word (by decide) ?_, bits_word (by decide) ?_⟩ <;> simp only [total] <;> omega

/-- The fields of word 44H of a recipe, with the bits that no field takes. -/
def fieldCuts : List (Nat × Nat) := [(0, 1), (1, 4), (5, 5), (10, 1), (11, 2), (13, 1), (14, 2)]

theorem readField_writeField (r : StagedRecipe) (v : Word) (h : bits v 5 5 ≤ 16) :
    (r.writeField v).readField = v &&& 0x3FFF := by
  have taken : (r.writeField v).width = bits v 5 5 := if_pos h
  obtain ⟨present, low, width, polarity, latch, confirm, unused⟩ := readField_fields (r.writeField v) (by omega)
  refine eq_of_fields fieldCuts (by decide) ?_
  simp only [fieldCuts, List.forall_mem_cons, List.not_mem_nil, false_implies, implies_true, and_true]
  refine ⟨?_, ?_, ?_, ?_, ?_, ?_, ?_⟩
  · rw [present, bits_and_of_full v (by decide)]
    exact bitN_bit v 0
  · rw [low, bits_and_of_full v (by decide)]
    exact toNat_extract v 1 4
  · rw [width, bits_and_of_full v (by decide), taken]
  · rw [polarity, bits_and_of_full v (by decide)]
    exact (polarity_code _).trans (bitN_bit v 10)
  · rw [latch, bits_and_of_full v (by decide)]
    exact latchOf_code (bits_lt v 11 2)
  · rw [confirm, bits_and_of_full v (by decide)]
    exact bitN_bit v 13
  · rw [unused, bits_and_of_empty v (by decide)]

theorem readField_writeField_of_wide (r : StagedRecipe) (v : Word) (h : 16 < bits v 5 5) (old : r.width ≤ 16) :
    (r.writeField v).readField = (v &&& 0x3C1F) ||| (r.readField &&& 0x03E0) := by
  have kept : (r.writeField v).width = r.width := if_neg (by omega)
  obtain ⟨present, low, width, polarity, latch, confirm, unused⟩ := readField_fields (r.writeField v) (by omega)
  refine eq_of_fields fieldCuts (by decide) ?_
  simp only [fieldCuts, List.forall_mem_cons, List.not_mem_nil, false_implies, implies_true, and_true]
  refine ⟨?_, ?_, ?_, ?_, ?_, ?_, ?_⟩
  · rw [present, bits_merge_first v _ (by decide) (by decide)]
    exact bitN_bit v 0
  · rw [low, bits_merge_first v _ (by decide) (by decide)]
    exact toNat_extract v 1 4
  · rw [width, bits_merge_second v _ (by decide) (by decide), kept, (readField_fields r (by omega)).2.2.1]
  · rw [polarity, bits_merge_first v _ (by decide) (by decide)]
    exact (polarity_code _).trans (bitN_bit v 10)
  · rw [latch, bits_merge_first v _ (by decide) (by decide)]
    exact latchOf_code (bits_lt v 11 2)
  · rw [confirm, bits_merge_first v _ (by decide) (by decide)]
    exact bitN_bit v 13
  · rw [unused, bits_merge_neither v _ (by decide) (by decide)]

/-! ### The general part -/

theorem readGeneral_head (g : Staging) :
    bits (g.readGeneral 0) 0 1 = bitN g.identPresent ∧ bits (g.readGeneral 0) 1 2 = g.identHigh.method.code ∧
      bits (g.readGeneral 0) 3 5 = g.identHigh.reg.toNat ∧ bits (g.readGeneral 0) 8 2 = g.identLow.method.code ∧
      bits (g.readGeneral 0) 10 5 = g.identLow.reg.toNat ∧ bits (g.readGeneral 0) 15 1 = 0 := by
  have present := bitN_lt g.identPresent
  have high := methodCode_lt g.identHigh.method
  have low := methodCode_lt g.identLow.method
  have highReg := g.identHigh.reg.isLt
  have lowReg := g.identLow.reg.isLt
  refine ⟨bits_word (by decide) ?_, bits_word (by decide) ?_, bits_word (by decide) ?_, bits_word (by decide) ?_,
    bits_word (by decide) ?_, bits_word (by decide) ?_⟩ <;> simp only [total] <;> omega

theorem readGeneral_map (g : Staging) (length : g.setupLength < 16) :
    bits (g.readGeneral 1) 0 2 = g.speedMap.e0.code ∧ bits (g.readGeneral 1) 2 2 = g.speedMap.e1.code ∧
      bits (g.readGeneral 1) 4 2 = g.speedMap.e2.code ∧ bits (g.readGeneral 1) 6 2 = g.speedMap.e3.code ∧
      bits (g.readGeneral 1) 8 1 = bitN g.preamble ∧ bits (g.readGeneral 1) 9 4 = g.setupLength ∧
      bits (g.readGeneral 1) 13 1 = bitN g.markerPresent ∧ bits (g.readGeneral 1) 14 2 = 0 := by
  have small (c : SpeedCode) : c.code < 4 := by cases c <;> decide
  have e0 := small g.speedMap.e0
  have e1 := small g.speedMap.e1
  have e2 := small g.speedMap.e2
  have e3 := small g.speedMap.e3
  have preamble := bitN_lt g.preamble
  have marker := bitN_lt g.markerPresent
  refine ⟨bits_word (by decide) ?_, bits_word (by decide) ?_, bits_word (by decide) ?_, bits_word (by decide) ?_,
    bits_word (by decide) ?_, bits_word (by decide) ?_, bits_word (by decide) ?_, bits_word (by decide) ?_⟩ <;>
    simp only [total] <;> omega

/-- The fields of word 41H of the general part, with the bit that no field takes. -/
def headCuts : List (Nat × Nat) := [(0, 1), (1, 2), (3, 5), (8, 2), (10, 5), (15, 1)]

/-- R181: the method of an identity register after a write: the code in range, else the method it had. -/
theorem identMethod (n : Nat) (h : n < 4) (m : Method) : ((methodOf n).getD m).code = if n = 3 then m.code else n := by
  interval_cases n <;> rfl

/-- The mask of the method fields that a write of word 41H of the general part leaves as they were. -/
def keptMethods (v : Word) : Word := (if bits v 1 2 = 3 then 0x0006 else 0) ||| (if bits v 8 2 = 3 then 0x0300 else 0)

/-- R181: that mask and the mask of what a write takes, field by field. -/
theorem keptMethods_fields (v : Word) :
    (∀ c ∈ [(0, 1), (3, 5), (10, 5), (15, 1)], bits (keptMethods v) c.1 c.2 = 0) ∧
      (∀ c ∈ [(0, 1), (3, 5), (10, 5)], bits (0x7FFF &&& ~~~keptMethods v) c.1 c.2 = 2 ^ c.2 - 1) ∧
      (bits (keptMethods v) 1 2 = (if bits v 1 2 = 3 then 3 else 0) ∧
        bits (0x7FFF &&& ~~~keptMethods v) 1 2 = if bits v 1 2 = 3 then 0 else 3) ∧
      (bits (keptMethods v) 8 2 = (if bits v 8 2 = 3 then 3 else 0) ∧
        bits (0x7FFF &&& ~~~keptMethods v) 8 2 = if bits v 8 2 = 3 then 0 else 3) ∧
      bits (0x7FFF &&& ~~~keptMethods v) 15 1 = 0 := by
  unfold keptMethods
  split <;> split <;> decide

theorem readGeneral_write_head (g : Staging) (v : Word) :
    (g.writeGeneral 0 v).readGeneral 0 = (v &&& 0x7FFF &&& ~~~keptMethods v) ||| (g.readGeneral 0 &&& keptMethods v) := by
  obtain ⟨present, high, highReg, low, lowReg, unused⟩ := readGeneral_head (g.writeGeneral 0 v)
  obtain ⟨-, oldHigh, -, oldLow, -, -⟩ := readGeneral_head g
  refine eq_of_fields headCuts (by decide) ?_
  rw [BitVec.and_assoc]
  simp only [headCuts, List.forall_mem_cons, List.not_mem_nil, false_implies, implies_true, and_true]
  obtain ⟨apart, held, ⟨high_kept, high_held⟩, ⟨low_kept, low_held⟩, top⟩ := keptMethods_fields v
  refine ⟨?_, ?_, ?_, ?_, ?_, ?_⟩
  · rw [present, bits_merge_first v _ (held (0, 1) (by decide)) (apart (0, 1) (by decide))]
    exact bitN_bit v 0
  · rw [high, show (g.writeGeneral 0 v).identHigh.method = (methodOf (bits v 1 2)).getD g.identHigh.method from rfl,
      identMethod _ (bits_lt v 1 2)]
    split
    case isTrue three =>
      rw [bits_merge_second v _ (high_held.trans (if_pos three)) (high_kept.trans (if_pos three)), oldHigh]
    case isFalse other =>
      rw [bits_merge_first v _ (high_held.trans (if_neg other)) (high_kept.trans (if_neg other))]
  · rw [highReg, bits_merge_first v _ (held (3, 5) (by decide)) (apart (3, 5) (by decide))]
    exact toNat_extract v 3 5
  · rw [low, show (g.writeGeneral 0 v).identLow.method = (methodOf (bits v 8 2)).getD g.identLow.method from rfl,
      identMethod _ (bits_lt v 8 2)]
    split
    case isTrue three =>
      rw [bits_merge_second v _ (low_held.trans (if_pos three)) (low_kept.trans (if_pos three)), oldLow]
    case isFalse other =>
      rw [bits_merge_first v _ (low_held.trans (if_neg other)) (low_kept.trans (if_neg other))]
  · rw [lowReg, bits_merge_first v _ (held (10, 5) (by decide)) (apart (10, 5) (by decide))]
    exact toNat_extract v 10 5
  · rw [unused, bits_merge_neither v _ top (apart (15, 1) (by decide))]

/-- The fields of word 42H of the general part, with the bits that no field takes. -/
def mapCuts : List (Nat × Nat) := [(0, 2), (2, 2), (4, 2), (6, 2), (8, 1), (9, 4), (13, 1), (14, 2)]

theorem readGeneral_write_map (g : Staging) (v : Word) (h : bits v 9 4 ≤ 8) :
    (g.writeGeneral 1 v).readGeneral 1 = v &&& 0x3FFF := by
  have taken : (g.writeGeneral 1 v).setupLength = bits v 9 4 := if_pos h
  obtain ⟨e0, e1, e2, e3, preamble, length, marker, unused⟩ := readGeneral_map (g.writeGeneral 1 v) (by omega)
  refine eq_of_fields mapCuts (by decide) ?_
  simp only [mapCuts, List.forall_mem_cons, List.not_mem_nil, false_implies, implies_true, and_true]
  refine ⟨?_, ?_, ?_, ?_, ?_, ?_, ?_, ?_⟩
  · rw [e0, bits_and_of_full v (by decide)]
    exact code_speedOf (bits_lt v 0 2)
  · rw [e1, bits_and_of_full v (by decide)]
    exact code_speedOf (bits_lt v 2 2)
  · rw [e2, bits_and_of_full v (by decide)]
    exact code_speedOf (bits_lt v 4 2)
  · rw [e3, bits_and_of_full v (by decide)]
    exact code_speedOf (bits_lt v 6 2)
  · rw [preamble, bits_and_of_full v (by decide)]
    exact bitN_bit v 8
  · rw [length, bits_and_of_full v (by decide), taken]
  · rw [marker, bits_and_of_full v (by decide)]
    exact bitN_bit v 13
  · rw [unused, bits_and_of_empty v (by decide)]

theorem readGeneral_write_map_of_long (g : Staging) (v : Word) (h : 8 < bits v 9 4) (old : g.setupLength ≤ 8) :
    (g.writeGeneral 1 v).readGeneral 1 = (v &&& 0x21FF) ||| (g.readGeneral 1 &&& 0x1E00) := by
  have kept : (g.writeGeneral 1 v).setupLength = g.setupLength := if_neg (by omega)
  obtain ⟨e0, e1, e2, e3, preamble, length, marker, unused⟩ := readGeneral_map (g.writeGeneral 1 v) (by omega)
  obtain ⟨-, -, -, -, -, oldLength, -, -⟩ := readGeneral_map g (by omega)
  refine eq_of_fields mapCuts (by decide) ?_
  simp only [mapCuts, List.forall_mem_cons, List.not_mem_nil, false_implies, implies_true, and_true]
  refine ⟨?_, ?_, ?_, ?_, ?_, ?_, ?_, ?_⟩
  · rw [e0, bits_merge_first v _ (by decide) (by decide)]
    exact code_speedOf (bits_lt v 0 2)
  · rw [e1, bits_merge_first v _ (by decide) (by decide)]
    exact code_speedOf (bits_lt v 2 2)
  · rw [e2, bits_merge_first v _ (by decide) (by decide)]
    exact code_speedOf (bits_lt v 4 2)
  · rw [e3, bits_merge_first v _ (by decide) (by decide)]
    exact code_speedOf (bits_lt v 6 2)
  · rw [preamble, bits_merge_first v _ (by decide) (by decide)]
    exact bitN_bit v 8
  · rw [length, bits_merge_second v _ (by decide) (by decide), kept, oldLength]
  · rw [marker, bits_merge_first v _ (by decide) (by decide)]
    exact bitN_bit v 13
  · rw [unused, bits_merge_neither v _ (by decide) (by decide)]

/-! ### The parts -/

/-- R181: a word of a part reads back as its part's write left it, and a write leaves the words of the other parts. -/
theorem read_write_part (g : Staging) (part : StagingPart) (n m : Fin 4) (v : Word) :
    (∀ i, part = .recipe i → (g.write part n v).read part m = ((g.recipes.get i).write n v).read m) ∧
      (∀ k, part = .step k → (g.write part n v).read part m = (g.steps[k].write n v).read m) ∧
      (part = .marker → (g.write part n v).read part m = (g.marker.write n v).read m) := by
  refine ⟨?_, ?_, ?_⟩
  · rintro i rfl
    simp [Staging.write, Staging.read]
  · rintro k rfl
    simp [Staging.write, Staging.read]
  · rintro rfl
    rfl

/-- R181: the general part's write leaves the recipes, the setup steps and the marker's step. -/
theorem writeGeneral_parts (g : Staging) (n : Fin 4) (v : Word) :
    (g.writeGeneral n v).recipes = g.recipes ∧ (g.writeGeneral n v).steps = g.steps ∧
      (g.writeGeneral n v).marker = g.marker := by
  fin_cases n <;> exact ⟨rfl, rfl, rfl⟩

theorem readGeneral_writeGeneral_of_ne (g : Staging) {n m : Fin 4} (h : m ≠ n) (v : Word) :
    (g.writeGeneral n v).readGeneral m = g.readGeneral m := by
  fin_cases n <;> fin_cases m <;> first | rfl | exact absurd rfl h

theorem read_write_recipe_of_ne (r : StagedRecipe) {n m : Fin 4} (h : m ≠ n) (v : Word) : (r.write n v).read m = r.read m := by
  unfold StagedRecipe.write StagedRecipe.read
  by_cases field : n = 3
  · have other : m ≠ 3 := field ▸ h
    simp [field, other, StagedRecipe.writeField]
  · by_cases last : m = 3
    · simp [field, last, StagedRecipe.readField]
    · simp [field, last, read_write_loc_of_ne r.loc h]

theorem read_write_step_of_ne (t : StagedStep) {n m : Fin 4} (h : m ≠ n) (v : Word) : (t.write n v).read m = t.read m := by
  unfold StagedStep.write StagedStep.read
  by_cases field : n = 3
  · have other : m ≠ 3 := field ▸ h
    simp [field, other]
  · by_cases last : m = 3
    · simp [field, last]
    · simp [field, last, read_write_loc_of_ne t.loc h]

/-- R181: a write leaves the other words of its part. -/
theorem read_write_word_of_ne (g : Staging) (part : StagingPart) {n m : Fin 4} (h : m ≠ n) (v : Word) :
    (g.write part n v).read part m = g.read part m := by
  obtain ⟨recipe, step, marker⟩ := read_write_part g part n m v
  cases part with
  | recipe i => exact (recipe i rfl).trans (read_write_recipe_of_ne _ h v)
  | step k => exact (step k rfl).trans (read_write_step_of_ne _ h v)
  | marker => exact (marker rfl).trans (read_write_step_of_ne _ h v)
  | general => exact readGeneral_writeGeneral_of_ne g h v

/-- R181: a write leaves every word of the other parts. -/
theorem read_write_part_of_ne (g : Staging) {part other : StagingPart} (h : other ≠ part) (n m : Fin 4) (v : Word) :
    (g.write part n v).read other m = g.read other m := by
  cases part with
  | recipe i =>
    cases other with
    | recipe j =>
      have ne : j ≠ i := fun same => h (same ▸ rfl)
      simp [Staging.write, Staging.read, PerItem.get_set_of_ne _ i j _ ne]
    | step => rfl
    | marker => rfl
    | general => rfl
  | step k =>
    cases other with
    | step l =>
      have ne : k.val ≠ l.val := fun same => h (by rw [Fin.ext same])
      simp [Staging.write, Staging.read, Vector.getElem_set_ne, ne]
    | recipe => rfl
    | marker => rfl
    | general => rfl
  | marker => cases other with
    | marker => exact absurd rfl h
    | recipe => rfl
    | step => rfl
    | general => rfl
  | general =>
    obtain ⟨recipes, steps, marker⟩ := writeGeneral_parts g n v
    cases other with
    | general => exact absurd rfl h
    | recipe i => exact congrArg (fun x => (x.get i).read m) recipes
    | step k => exact congrArg (fun x => (x[k] : StagedStep).read m) steps
    | marker => exact congrArg (fun x => x.read m) marker

/-- R181: the words 41H to 43H of a part other than the general one are those of its location. -/
theorem read_write_loc {g : Staging} {part : StagingPart} (located : part ≠ .general) :
    ∃ l : StagedLoc, ∀ n : Fin 4, n ≠ 3 → g.read part n = l.read n ∧ ∀ v, (g.write part n v).read part n = (l.write n v).read n := by
  obtain ⟨recipe, step, marker⟩ : _ ∧ _ ∧ _ := ⟨fun n v => (read_write_part g part n n v).1,
    fun n v => (read_write_part g part n n v).2.1, fun n v => (read_write_part g part n n v).2.2⟩
  cases part with
  | recipe i =>
    refine ⟨(g.recipes.get i).loc, fun n low => ⟨by simp [Staging.read, StagedRecipe.read, low], fun v => ?_⟩⟩
    rw [recipe n v i rfl]
    simp [StagedRecipe.write, StagedRecipe.read, low]
  | step k =>
    refine ⟨g.steps[k].loc, fun n low => ⟨by simp [Staging.read, StagedStep.read, low], fun v => ?_⟩⟩
    rw [step n v k rfl]
    simp [StagedStep.write, StagedStep.read, low]
  | marker =>
    refine ⟨g.marker.loc, fun n low => ⟨by simp [Staging.read, StagedStep.read, low], fun v => ?_⟩⟩
    rw [marker n v rfl]
    simp [StagedStep.write, StagedStep.read, low]
  | general => exact absurd rfl located

/-- Settles O27: the index, the words a write leaves, and the word it reads back, part by part. -/
theorem stagingWordsReadBack : Obligations.StagingWordsReadBack := by
  refine ⟨fun v s running => ⟨fun inside => ?_, fun outside => ?_⟩, fun n v s running => ?_⟩
  · rw [exec_running (fun s => { s with ps := s.ps.writeIndex v }) rfl running]
    simp only [ProfileStore.writeIndex, inside, if_true]
  · rw [exec_running (fun s => { s with ps := s.ps.writeIndex v }) rfl running]
    simp only [ProfileStore.writeIndex, Nat.not_le.mpr outside, if_false]
  · refine ⟨s.ps.staging.write (stagingPart s.ps.stagingIndex) n v,
      exec_running (fun s => { s with ps := s.ps.writePart n v }) rfl running, fun part m elsewhere => ?_,
      fun part selected located => ?_, fun selected => ?_⟩
    · by_cases same : part = stagingPart s.ps.stagingIndex
      · exact same ▸ read_write_word_of_ne _ _ (elsewhere.resolve_left (not_not_intro same)) v
      · exact read_write_part_of_ne _ same n m v
    · rw [← selected]
      obtain ⟨l, words⟩ := read_write_loc (g := s.ps.staging) located
      obtain ⟨recipe, step, marker⟩ := read_write_part s.ps.staging part n n v
      refine ⟨?_, ?_, ?_, ?_, ?_, ?_⟩
      · rintro rfl method
        exact ((words 0 (by decide)).2 v).trans (readWord_writeWord l v method)
      · rintro rfl method
        rw [(words 0 (by decide)).2 v, (words 0 (by decide)).1]
        exact readWord_writeWord_of_three l v method
      · rintro (rfl | rfl)
        · exact (words 1 (by decide)).2 v
        · exact (words 2 (by decide)).2 v
      · rintro rfl no_recipe
        cases part with
        | recipe i => exact absurd rfl (no_recipe i)
        | step k => exact step k rfl
        | marker => exact marker rfl
        | general => exact absurd rfl located
      · rintro rfl ⟨i, rfl⟩ width
        exact (recipe i rfl).trans (readField_writeField _ v width)
      · rintro rfl ⟨i, rfl⟩ width law
        exact (recipe i rfl).trans (readField_writeField_of_wide _ v width (law.width i))
    · rw [selected]
      refine ⟨?_, ?_, ?_, ?_⟩
      · rintro rfl
        exact readGeneral_write_head s.ps.staging v
      · rintro rfl length
        exact readGeneral_write_map s.ps.staging v length
      · rintro rfl length law
        exact readGeneral_write_map_of_long s.ps.staging v length law.length
      · rintro (rfl | rfl) <;> exact ⟨rfl, rfl⟩

end Sys2Proof.Laws
end

section
/-! PROOFS. The Bus Channel: a unit cut short (R110, R117), the end of a disable drain (R116), and the idle-line check (R109,
R110, R64). -/
namespace Sys2Proof.Laws

open Sys2Proof.Machine Sys2Proof.Safety

/-! ### A unit cut short -/

/-- R110, R117: the unit that holds a channel, cut short with a result for the members of a host unit, leaves these completion
records and this scheduler: a probe or presence check that is not stale goes back to the front of its queue. -/
def Cuts (s : State) (ch : Chan) (c : Channel) (res : HostResult) (l : List Completion) (q : Scheduler) : Prop :=
  (c.held = none ∧ l = [] ∧ q = c.sched) ∨
  (∃ r, c.held = some (.host r) ∧ l = r.done ++ allWith (r.current.txn :: r.todo) res ∧ q = c.sched) ∨
  (∃ j, c.held = some (.job j) ∧
    (j.kind = .urgent ∨ j.kind = .regular ∨ j.stale = true ∨ s.cu.softResetting = true) ∧ l = [] ∧ q = c.sched) ∨
  ∃ j b k, c.held = some (.job j) ∧ j.stale = false ∧ j.kind = k.unit ∧ (s.port j.port).state = memberState k ∧
    (s.port j.port).binding = some b ∧ b.channel = ch ∧ s.cu.softResetting = false ∧ l = [] ∧
    q = withProbeFirst c.sched j.port k

theorem Cuts.congr {s t : State} {ch : Chan} {c d : Channel} {res : HostResult} {l : List Completion} {q : Scheduler}
    (h : Cuts s ch c res l q) (held : d.held = c.held) (sched : d.sched = c.sched) (cu : t.cu = s.cu) (pt : t.pt = s.pt) :
    Cuts t ch d res l q := by
  unfold Cuts at h ⊢
  rw [held, sched, cu]
  have port : ∀ p, t.port p = s.port p := fun p => by simp only [State.port, pt]
  simpa only [port] using h

theorem needs_unit (k : ProbeKind) : k.unit.needs = memberState k := by cases k <;> rfl

/-- R59, R60, R63: the outcomes that a unit cut short ends with. -/
def isCut (o : JobOutcome) : Prop := o = .busFault ∨ o = .aborted

/-- R60, R64: a scan cut short, a stale job and a job under SOFT_RESET change nothing. -/
theorem jobOutcome_still {s : State} {j : Job} {o : JobOutcome} (cut : isCut o)
    (still : j.kind = .urgent ∨ j.kind = .regular ∨ j.stale = true ∨ s.cu.softResetting = true) : s.jobOutcome j o = s := by
  unfold State.jobOutcome
  obtain kind | kind | stale | resetting := still
  · rw [kind]
    obtain rfl | rfl := cut <;> exact ite_self _
  · rw [kind]
    obtain rfl | rfl := cut <;> exact ite_self _
  · simp [stale]
  · simp [resetting]

/-- R59: a probe or presence check cut short goes back to the front of its queue. -/
theorem jobOutcome_returned {s : State} {j : Job} {o : JobOutcome} {b : Binding} {k : ProbeKind} (cut : isCut o)
    (fresh : j.stale = false) (kind : j.kind = k.unit) (state : (s.port j.port).state = memberState k)
    (bound : (s.port j.port).binding = some b) (quiet : s.cu.softResetting = false) :
    s.jobOutcome j o =
      s.setChan b.channel { s.chan b.channel with sched := withProbeFirst (s.chan b.channel).sched j.port k } := by
  rw [← requeue_of_binding bound k]
  have taken : (j.stale || s.cu.softResetting || decide ((s.port j.port).state ≠ j.kind.needs)) = false := by
    simp [fresh, quiet, state, kind, needs_unit]
  unfold State.jobOutcome
  rw [taken, kind]
  cases k <;> obtain rfl | rfl := cut <;> rfl

/-- R110, R117: what a cut leaves. -/
theorem cutUnit_eq {s : State} {ch : Chan} {c : Channel} {o : JobOutcome} {res : HostResult} {l : List Completion}
    {q : Scheduler} (cut : isCut o) (h : Cuts s ch c res l q) :
    (s.setChan ch c).cutUnit ch o res =
      State.setChan { s with ht := { s.ht with completions := s.ht.completions ++ l } } ch
        { c with held := none, sched := q } := by
  unfold State.cutUnit
  rw [State.chan_setChan_self]
  obtain ⟨held, rfl, rfl⟩ | ⟨r, held, rfl, rfl⟩ | ⟨j, held, still, rfl, rfl⟩ |
    ⟨j, b, k, held, fresh, kind, state, bound, home, quiet, rfl, rfl⟩ := h
  · have same : { c with held := none, sched := c.sched } = c := by cases c; simp_all
    simp [held, same]
  · simp only [held]
    cases ch <;> rfl
  · simp only [held, State.endJob]
    rw [jobOutcome_still cut (by simpa using still)]
    simp [State.modChan]
  · simp only [held, State.endJob]
    rw [jobOutcome_returned (b := b) cut fresh kind (by simpa using state) (by simpa using bound) (by simpa using quiet), home]
    simp [State.modChan]

/-! ### The end of a disable drain -/

/-- R184: the command that awaits the drain of one channel. -/
def awaiting (code : BitVec 8) (ch : Chan) : Option Timed := some ⟨code, decide (ch = .ch0), decide (ch = .ch1)⟩

/-- R184: the drain of the one channel awaited has ended. -/
theorem drainReport_of_awaited {s : State} {ch : Chan} {code : BitVec 8} (awaited : s.cu.timed = awaiting code ch)
    (other : code ≠ 20#8) : s.drainReport ch = { s with cu := completed s.cu code } := by
  cases ch <;> simp [State.drainReport, awaited, awaiting, Timed.ended, other] <;> rfl

/-- R116, R77: the end of a disable drain, with which CHANNEL_ENABLE(off) completes. -/
theorem disableDrainEnd_of_awaited {s : State} {ch : Chan} {c : Channel} (awaited : s.cu.timed = awaiting 17 ch) :
    (s.setChan ch c).disableDrainEnd ch = State.setChan { s with cu := completed s.cu 17 } ch (disabled c) := by
  unfold State.disableDrainEnd
  rw [drainReport_of_awaited (by simpa using awaited) (by decide)]
  cases ch <;> rfl

/-- Where the arbiter may not decide, its notice leaves the part as it is. -/
theorem decided_of_busy {s : State} {ch : Chan} (busy : s.mayDecide ch = false) : DecidedFrom s s ch := by
  have decided := notice_decided s ch
  rwa [notice_of_busy busy] at decided

/-- R100, R116: what follows once the held unit has taken the result of its frame. -/
theorem unitFollowed_afterUnit (u : State) (ch : Chan) : UnitFollowed u (u.afterUnit ch) ch := by
  unfold State.afterUnit
  cases held : (u.chan ch).held with
  | some x =>
    exact ⟨fun _ => decided_of_busy (by simp [State.mayDecide, held]), fun _ => ⟨fun _ => rfl, fun free => by simp [held] at free⟩⟩
  | none =>
    refine ⟨fun quiet => ?_, fun draining => ⟨fun busy => by simp [held] at busy, fun _ awaited => ?_⟩⟩
    · rw [if_neg (by simp), if_neg (by simp [quiet])]
      exact notice_decided u ch
    · rw [if_neg (by simp), if_pos draining]
      have ends := disableDrainEnd_of_awaited (s := u) (ch := ch) (c := u.chan ch) awaited
      rwa [State.setChan_chan] at ends

/-! ### The idle-line check -/

/-- R64: a stale job whose piece has not begun. -/
theorem staleAtPieceStart_iff (c : Channel) :
    c.staleAtPieceStart = true ↔ ∃ j, c.held = some (.job j) ∧ j.stale = true ∧ j.access.phase = j.access.loc.firstPhase := by
  unfold Channel.staleAtPieceStart
  split
  · next j held => simp [held, Access.atStart]
  · next other =>
    refine ⟨nofun, fun ⟨j, held, _⟩ => absurd held (other j)⟩

theorem firstPhase_eq (l : Location) [Decidable (∃ reg, l = .direct reg)] :
    l.firstPhase = if ∃ reg, l = .direct reg then .main else .select := by
  cases l <;> simp [Location.firstPhase]

/-- R110: the part after a failed check whose unit leaves `x` and the scheduler `q`. -/
def faultEnd (x : State) (ch : Chan) (c : Channel) (q : Scheduler) : State :=
  if c.drain = .disable then
    State.setChan { x with cu := completed x.cu 17 } ch (disabled { c with frame := none, held := none, sched := q })
  else x.setChan ch { c with frame := none, held := none, state := .halted, sched := q }

/-- R110: the failed check, with what its unit leaves. -/
theorem lineFault_of_cuts {s : State} {ch : Chan} {c : Channel} {l : List Completion} {q : Scheduler}
    (h : Cuts s ch c .busFault l q) (awaited : c.drain = .disable → s.cu.timed = awaiting 17 ch) :
    (s.setChan ch c).lineFault ch = faultEnd
      { s with
        ev := { (s.ev.take (.channelFault ch) s.stamp).1 with chf := true }
        ht := { s.ht with completions := s.ht.completions ++ l } } ch c q := by
  have cut : lineCut (s.setChan ch c) ch =
      s.setChan ch { c with frame := none, state := if c.drain = .disable then c.state else .halted } := by
    unfold lineCut State.modChan
    rw [State.chan_setChan_self, State.setChan_setChan]
  have faulted : lineFaulted (s.setChan ch c) ch = State.setChan
      { s with
        ev := { (s.ev.take (.channelFault ch) s.stamp).1 with chf := true }
        ht := { s.ht with completions := s.ht.completions ++ l } } ch
      { c with frame := none, state := if c.drain = .disable then c.state else .halted, held := none, sched := q } := by
    unfold lineFaulted
    rw [cut, cutUnit_eq (.inl rfl) (h.congr (d := { c with
      frame := none, state := if c.drain = .disable then c.state else .halted }) rfl rfl rfl rfl), post_of_none _ _ rfl]
    cases ch <;> rfl
  rw [lineFault_eq, faulted, State.chan_setChan_self, faultEnd]
  by_cases draining : c.drain = .disable
  · simp only [draining, if_true]
    rw [disableDrainEnd_of_awaited (by exact awaited draining)]
  · simp only [draining, if_false]

/-- R64: a stale job whose piece has not begun ends without its frame. -/
theorem withdrawStale_eq {s : State} {ch : Chan} {c : Channel} (unbegun : c.staleAtPieceStart = true) :
    (s.setChan ch c).withdrawStale ch =
      (s.setChan ch { c with frame := none, held := none, state := if c.state = .busy then .idle else c.state }).afterUnit
        ch := by
  obtain ⟨j, held, stale, -⟩ := (staleAtPieceStart_iff c).mp unbegun
  have cut := cutUnit_eq (s := s) (ch := ch) (c := { c with
    frame := none, state := if c.state = .busy then .idle else c.state }) (o := .aborted) (res := .aborted) (.inr rfl)
    (.inr (.inr (.inl ⟨j, held, .inr (.inr (.inl stale)), rfl, rfl⟩)))
  unfold State.withdrawStale State.modChan
  simp only [State.chan_setChan_self, State.setChan_setChan]
  rw [cut]
  simp

/-- The idle-line check of a frame that waits out its gap. -/
theorem takeIdleLineCheck_of_waiting {s : State} {ch : Chan} {f : FlyingFrame} (waiting : (s.chan ch).frame = some f)
    (unstarted : f.rate = none) (level : Bool) :
    s.takeIdleLineCheck ch level =
      let t := s.setChan ch { s.chan ch with mdioHigh := level }
      if !level then t.lineFault ch
      else if (s.chan ch).staleAtPieceStart then t.withdrawStale ch
      else s.setChan ch { s.chan ch with mdioHigh := true, frame := some { f with rate := some (s.chan ch).divider } } := by
  unfold State.takeIdleLineCheck
  split
  case h_1 nothing => exact absurd (waiting.symm.trans nothing) nofun
  case h_2 g there =>
    obtain rfl : g = f := Option.some.inj (there.symm.trans waiting)
    rw [if_neg (by simp [unstarted])]
    cases level with
    | false => rfl
    | true =>
      have same : ((s.modChan ch fun c => { c with mdioHigh := true }).chan ch).staleAtPieceStart =
          (s.chan ch).staleAtPieceStart := by
        rw [State.chan_modChan_self]
        rfl
      dsimp only
      rw [same]
      cases ch <;> rfl

/-- Settles O37: nothing waits, the line is high, or the line is low. -/
theorem idleLineCheckStartsOrHalts : Obligations.IdleLineCheckStartsOrHalts := by
  intro s ch running c e awaited ended unbegun
  have begun : c.staleAtPieceStart = true ↔ unbegun := by
    rw [staleAtPieceStart_iff]
    simp only [firstPhase_eq]
    rfl
  have row (m : Bool) : exec (.idleLineCheck ch m) s = .next (s.takeIdleLineCheck ch m) :=
    exec_running (fun s => s.takeIdleLineCheck ch m) rfl running
  refine ⟨fun nothing m => ?_, fun f waiting unstarted => ?_⟩
  · rw [row]
    unfold State.takeIdleLineCheck
    obtain none_waits | on_lines := nothing
    · rw [show (s.chan ch).frame = none from none_waits]
    · cases frame : (s.chan ch).frame with
      | none => rfl
      | some f =>
        have rate : f.rate.isSome = true := by simpa [started, c, frame] using on_lines
        simp [rate]
  · have check := takeIdleLineCheck_of_waiting (s := s) (ch := ch) waiting unstarted
    have fault {l : List Completion} {q : Scheduler} (complete : c.drain = .disable → awaited)
        (h : Cuts s ch c .busFault l q) : exec (.idleLineCheck ch false) s = .next (ended
          { s with ev := e, ht := { s.ht with completions := s.ht.completions ++ l } } q) := by
      rw [row, check]
      exact congrArg _ (lineFault_of_cuts (h.congr (d := { c with mdioHigh := false }) rfl rfl rfl rfl) complete)
    have none_placed : { s.ht with completions := s.ht.completions ++ [] } = s.ht := by rw [List.append_nil]
    refine ⟨fun waits => ?_, fun ends quiet => ?_, fun ends draining complete => ?_, fun complete => ⟨fun r held => ?_,
      fun j held still => ?_, fun j b k held fresh kind state bound home quiet => ?_⟩⟩
    · rw [row, check]
      simp only [Bool.not_true, Bool.false_eq_true, if_false]
      rw [if_neg (fun there => waits (begun.mp there))]
    · refine ⟨_, row true, ?_⟩
      rw [check]
      simp only [Bool.not_true, Bool.false_eq_true, if_false]
      rw [if_pos (begun.mpr ends), withdrawStale_eq (c := { c with mdioHigh := true }) (begun.mpr ends)]
      exact (unitFollowed_afterUnit _ ch).1 (by simpa using quiet)
    · rw [row, check]
      simp only [Bool.not_true, Bool.false_eq_true, if_false]
      rw [if_pos (begun.mpr ends), withdrawStale_eq (c := { c with mdioHigh := true }) (begun.mpr ends)]
      have followed := ((unitFollowed_afterUnit (s.setChan ch { c with
        mdioHigh := true, frame := none, held := none, state := if c.state = .busy then .idle else c.state }) ch).2
        (by simpa using draining)).2 (by simp) (by rw [State.setChan_cu]; exact complete)
      exact congrArg _ (followed.trans (by cases ch <;> rfl))
    · exact fault complete (.inr (.inl ⟨r, held, rfl, rfl⟩))
    · have whole := fault complete (.inr (.inr (.inl ⟨j, held, still.imp_right fun h => h.imp_right .inl, rfl, rfl⟩)))
      rwa [none_placed] at whole
    · have whole := fault complete (.inr (.inr (.inr ⟨j, b, k, held, fresh, kind, state, bound, home, quiet, rfl, rfl⟩)))
      rwa [none_placed] at whole

end Sys2Proof.Laws
end

section
/-! PROOFS. FRAME_END of a job (R111, R112, R114): the preamble-established set, the frames of a stale job, and how a job goes
on. -/
namespace Sys2Proof.Laws

open Sys2Proof.Machine Sys2Proof.Safety

/-! ### The last bit of a frame -/

theorem frameResult_eq (f : FlyingFrame) (turnaround : Bool) (data : Word) :
    f.frame.result turnaround data = frameResult f turnaround data := by
  unfold Frame.result frameResult
  cases f.frame.op <;> simp

theorem frameDone_eq (c : Channel) (f : FlyingFrame) (res : FrameResult) : c.frameDone f res = frameGone c f res := by
  unfold Channel.frameDone frameGone establishedAfter
  cases res <;> simp

/-- R112: what a frame's end hands on: the part whose channel has taken the frame off its lines. -/
def frameOff (s : State) (ch : Chan) (f : FlyingFrame) (turnaround : Bool) (data : Word) : State :=
  s.setChan ch (frameGone (s.chan ch) f (frameResult f turnaround data))

/-- R112: FRAME_END with a frame on the lines. -/
theorem takeFrameEnd_of_started {s : State} {ch : Chan} {f : FlyingFrame} (flying : (s.chan ch).frame = some f)
    (rate : f.rate.isSome = true) (turnaround : Bool) (data : Word) :
    s.takeFrameEnd ch turnaround data =
      let res := frameResult f turnaround data
      let x := frameOff s ch f turnaround data
      if (s.chan ch).drain = .abort then (((x.abortFrameEnd ch res).abortDrainEnd ch).drainReport ch).notice ch
      else (x.unitFrameEnd ch res).afterUnit ch := by
  have off : (s.modChan ch fun c => c.frameDone f (frameResult f turnaround data)) = frameOff s ch f turnaround data := by
    unfold State.modChan frameOff
    dsimp only
    rw [frameDone_eq]
  have drain : ((frameOff s ch f turnaround data).chan ch).drain = (s.chan ch).drain := by
    rw [frameOff, State.chan_setChan_self]
    rfl
  simp only [State.takeFrameEnd, flying, rate, if_true, State.frameEnd, frameResult_eq, off, drain]

theorem takeFrameEnd_of_not_started {s : State} {ch : Chan} (quiet : started (s.chan ch) = false) (turnaround : Bool)
    (data : Word) : s.takeFrameEnd ch turnaround data = s := by
  unfold State.takeFrameEnd
  cases frame : (s.chan ch).frame with
  | none => rfl
  | some f =>
    have rate : f.rate.isSome = false := by simpa [started, frame] using quiet
    simp [rate]

theorem exec_frameEnd {s : State} (running : s.rstnLow = false) (ch : Chan) (turnaround : Bool) (data : Word) :
    exec (.frameEnd ch turnaround data) s = .next (s.takeFrameEnd ch turnaround data) :=
  exec_running (fun s => s.takeFrameEnd ch turnaround data) rfl running

/-! ### What a unit and its end leave of the lines -/

/-- R114: what a unit, a decision and the end of a drain keep: the preamble-established set, the divider and the weight of the
channel, the frame and the set of the other, and the blocks that no unit changes. -/
structure Wired (s t : State) (ch : Chan) : Prop where
  established : (t.chan ch).established = (s.chan ch).established
  divider : (t.chan ch).divider = (s.chan ch).divider
  weight : (t.chan ch).hostWeight = (s.chan ch).hostWeight
  otherFrame : (t.chan (other ch)).frame = (s.chan (other ch)).frame
  otherEstablished : (t.chan (other ch)).established = (s.chan (other ch)).established
  ps : t.ps = s.ps
  att : t.att = s.att
  stamp : t.stamp = s.stamp
  pending : t.pending = s.pending

theorem Wired.refl (s : State) (ch : Chan) : Wired s s ch := ⟨rfl, rfl, rfl, rfl, rfl, rfl, rfl, rfl, rfl⟩

theorem Wired.trans {s t u : State} {ch : Chan} (a : Wired s t ch) (b : Wired t u ch) : Wired s u ch :=
  ⟨b.established.trans a.established, b.divider.trans a.divider, b.weight.trans a.weight,
    b.otherFrame.trans a.otherFrame, b.otherEstablished.trans a.otherEstablished, b.ps.trans a.ps, b.att.trans a.att,
    b.stamp.trans a.stamp, b.pending.trans a.pending⟩

/-- A change of the channel that leaves its set, divider and weight. -/
theorem wired_modChan (s : State) (ch : Chan) {f : Channel → Channel}
    (same : ∀ c, (f c).established = c.established ∧ (f c).divider = c.divider ∧ (f c).hostWeight = c.hostWeight) :
    Wired s (s.modChan ch f) ch := by
  obtain ⟨established, divider, weight⟩ := same (s.chan ch)
  refine ⟨?_, ?_, ?_, ?_, ?_, by simp, by simp, by simp, by simp⟩
  · rw [State.chan_modChan_self, established]
  · rw [State.chan_modChan_self, divider]
  · rw [State.chan_modChan_self, weight]
  · rw [State.chan_modChan_of_ne _ _ _ _ (other_ne ch)]
  · rw [State.chan_modChan_of_ne _ _ _ _ (other_ne ch)]

theorem wired_cu (s : State) (c : CommandUnit) (ch : Chan) : Wired s { s with cu := c } ch := by
  cases ch <;> exact ⟨rfl, rfl, rfl, rfl, rfl, rfl, rfl, rfl, rfl⟩

theorem wired_endHost (s : State) (ch : Chan) (l : List Completion) : Wired s (s.endHost ch l) ch := by
  cases ch <;> exact ⟨rfl, rfl, rfl, rfl, rfl, rfl, rfl, rfl, rfl⟩

theorem Wired.chan_after {s u t : State} {ch : Chan} (recorded : Recorded s u) (ongoing : Ongoing s t) (last : Wired u t ch) :
    Wired s t ch :=
  ⟨last.established.trans (by rw [(recorded.chan ch).rest]), last.divider.trans (by rw [(recorded.chan ch).rest]),
    last.weight.trans (by rw [(recorded.chan ch).rest]), last.otherFrame.trans (by rw [(recorded.chan (other ch)).rest]),
    last.otherEstablished.trans (by rw [(recorded.chan (other ch)).rest]), ongoing.ps, ongoing.att, ongoing.stamp,
    ongoing.pending⟩

theorem wired_of_moves {s t : State} {ch : Chan} {n : Nat} (moves : UnitMoves s t ch n) (ongoing : Ongoing s t) :
    Wired s t ch := by
  obtain ⟨u, recorded, ⟨l, -, rfl⟩ | ⟨h, mayOmit, -, rfl⟩⟩ := moves
  · exact .chan_after recorded ongoing (wired_endHost u ch l)
  · exact .chan_after recorded ongoing (wired_modChan u ch fun _ => ⟨rfl, rfl, rfl⟩)

theorem wired_unitFrameEnd (s : State) (ch : Chan) (res : FrameResult) : Wired s (s.unitFrameEnd ch res) ch := by
  cases held : (s.chan ch).held with
  | none =>
    have same : s.unitFrameEnd ch res = s := by simp only [State.unitFrameEnd, held]
    rw [same]
    exact .refl s ch
  | some u => exact wired_of_moves (unitMoves_unitFrameEnd held res) (ongoing_unitFrameEnd s ch res)

theorem wired_abortFrameEnd (s : State) (ch : Chan) (res : FrameResult) : Wired s (s.abortFrameEnd ch res) ch := by
  cases held : (s.chan ch).held with
  | none =>
    have same : s.abortFrameEnd ch res = s := by simp only [State.abortFrameEnd, held]
    rw [same]
    exact .refl s ch
  | some u =>
    obtain ⟨v, l, recorded, -, ends⟩ := unitEnds_abortFrameEnd held res
    have ongoing := ongoing_abortFrameEnd s ch res
    rw [ends] at ongoing ⊢
    exact .chan_after recorded ongoing (wired_endHost v ch l)

theorem wired_grantDevice (s : State) (ch : Chan) (x : Source) : Wired s (s.grantDevice ch x) ch := by
  unfold State.grantDevice
  refine wired_modChan s ch fun c => ?_
  cases s.composeJob x.1 x.2 <;> exact ⟨rfl, rfl, rfl⟩

theorem wired_decideOnce (s : State) (ch : Chan) : Wired s (s.decideOnce ch).1 ch := by
  have looked : Wired s (consulted s ch) ch :=
    wired_modChan s ch (f := fun c => { c with sched := (s.consult ch).1 }) fun _ => ⟨rfl, rfl, rfl⟩
  obtain ⟨-, -, same⟩ | ⟨x, -, device⟩ | ⟨u, rest, -, -, host⟩ := decideOnce_cases s ch
  · rw [same]
    exact looked
  · rw [device]
    exact looked.trans (wired_grantDevice _ ch x)
  · rw [host]
    have granted : Wired (consulted s ch) ((consulted s ch).modChan ch fun c => hostGranted c rest) ch :=
      wired_modChan _ ch fun _ => ⟨rfl, rfl, rfl⟩
    exact (looked.trans granted).trans (wired_of_moves (unitMoves_hostProceed ..) (ongoing_hostProceed ..))

theorem wired_notice (s : State) (ch : Chan) : Wired s (s.notice ch) ch :=
  notice_keeps (P := fun t => Wired s t ch) (fun t wired _ => wired.trans (wired_decideOnce t ch)) (.refl s ch)

theorem wired_abortDrainEnd (s : State) (ch : Chan) : Wired s (s.abortDrainEnd ch) ch := by
  cases ch <;> exact ⟨rfl, rfl, rfl, rfl, rfl, rfl, rfl, rfl, rfl⟩

/-- R184: outside SOFT_RESET the end of a drain changes the Command Unit alone. -/
theorem drainReport_of_quiet {s : State} (quiet : s.cu.softResetting = false) (ch : Chan) :
    ∃ c, s.drainReport ch = { s with cu := c } ∧ c.softResetting = false := by
  cases timed : s.cu.timed with
  | none => exact ⟨s.cu, by simp only [State.drainReport, timed], quiet⟩
  | some t =>
    have code : t.code ≠ 20#8 := by simpa [CommandUnit.softResetting, timed] using quiet
    have ended : (t.ended ch).code = t.code := by cases ch <;> rfl
    unfold State.drainReport
    simp only [timed, ended, code, if_false]
    split
    · exact ⟨_, rfl, by simpa [CommandUnit.softResetting, ended] using code⟩
    · exact ⟨_, rfl, rfl⟩

theorem wired_drainReport {s : State} (quiet : s.cu.softResetting = false) (ch : Chan) : Wired s (s.drainReport ch) ch := by
  obtain ⟨c, reported, -⟩ := drainReport_of_quiet quiet ch
  rw [reported]
  exact wired_cu s c ch

theorem wired_afterUnit {s : State} (quiet : s.cu.softResetting = false) (ch : Chan) : Wired s (s.afterUnit ch) ch := by
  unfold State.afterUnit
  split
  · exact .refl s ch
  · split
    · exact (wired_modChan s ch (f := fun c => { c with state := .off, drain := .none, sched := c.sched.disable })
        fun _ => ⟨rfl, rfl, rfl⟩).trans (wired_drainReport (by simpa using quiet) ch)
    · exact wired_notice s ch

theorem wired_takeFrameEnd {s : State} (quiet : s.cu.softResetting = false) {ch : Chan} {f : FlyingFrame}
    (flying : (s.chan ch).frame = some f) (rate : f.rate.isSome = true) (turnaround : Bool) (data : Word) :
    Wired (frameOff s ch f turnaround data) (s.takeFrameEnd ch turnaround data) ch := by
  have off : (frameOff s ch f turnaround data).cu = s.cu := State.setChan_cu ..
  rw [takeFrameEnd_of_started flying rate]
  dsimp only
  split
  · refine (((wired_abortFrameEnd _ ch _).trans (wired_abortDrainEnd _ ch)).trans (wired_drainReport ?_ ch)).trans
      (wired_notice _ ch)
    rw [cu_abortDrainEnd, (ongoing_abortFrameEnd ..).cu, off, quiet]
  · refine (wired_unitFrameEnd _ ch _).trans (wired_afterUnit ?_ ch)
    rw [(ongoing_unitFrameEnd ..).cu, off, quiet]

/-! ### The preamble-established set -/

theorem getLsbD_one_shift (a d : BusAddr) : (1#32 <<< d.toNat).getLsbD a.toNat = decide (a = d) := by
  have same : a = d ↔ a.toNat = d.toNat := BitVec.toNat_inj.symm
  have inside := a.isLt
  simp only [BitVec.getLsbD_shiftLeft, BitVec.getLsbD_one, same]
  by_cases h : a.toNat = d.toNat
  · simp [h, d.isLt]
  · simp [h]
    omega

/-- R114: the set after a frame's end, address by address. -/
theorem established_frameGone (c : Channel) (f : FlyingFrame) (turnaround : Bool) (data : Word) (a : BusAddr) :
    (frameGone c f (frameResult f turnaround data)).established.getLsbD a.toNat =
      if a = f.frame.device then
        (if f.frame.op = .read ∧ turnaround = true then false else f.preamble || c.established.getLsbD a.toNat)
      else c.established.getLsbD a.toNat := by
  have inside : a.toNat < 32 := a.isLt
  have silent : frameResult f turnaround data = .noAnswer ↔ f.frame.op = .read ∧ turnaround = true := by
    unfold frameResult
    by_cases read : f.frame.op = .read <;> cases turnaround <;> simp [read]
  unfold frameGone
  simp only [silent]
  split
  · rw [BitVec.getLsbD_and, BitVec.getLsbD_not, getLsbD_one_shift]
    by_cases at_device : a = f.frame.device <;> simp [at_device, inside]
  · cases f.preamble
    · simp
    · rw [if_pos rfl, BitVec.getLsbD_or, getLsbD_one_shift]
      by_cases at_device : a = f.frame.device <;> simp [at_device]

/-- Settles O39: the set is that of the frame's end; nothing after it changes it. -/
theorem frameEndChangesThePreambleSet : Obligations.FrameEndChangesThePreambleSet := by
  intro s ch ta data running
  rw [exec_frameEnd running]
  refine ⟨fun nothing => by rw [takeFrameEnd_of_not_started nothing], fun f flying rate quiet => ⟨_, rfl, ?_⟩⟩
  have wired := wired_takeFrameEnd quiet flying rate ta data
  have off : (frameOff s ch f ta data).chan ch = frameGone (s.chan ch) f (frameResult f ta data) :=
    State.chan_setChan_self ..
  have others : (frameOff s ch f ta data).chan (other ch) = s.chan (other ch) :=
    State.chan_setChan_of_ne _ _ _ _ (other_ne ch)
  refine ⟨fun a => ?_, ?_, ?_, ?_, ?_, ?_, ?_, ?_, ?_⟩
  · rw [wired.established, off, established_frameGone]
  · rw [wired.otherFrame, others]
  · rw [wired.otherEstablished, others]
  · rw [wired.divider, off]
    rfl
  · rw [wired.weight, off]
    rfl
  · exact wired.ps.trans (State.setChan_ps ..)
  · exact wired.att.trans (State.setChan_att ..)
  · exact wired.stamp.trans (State.setChan_stamp ..)
  · exact wired.pending.trans (State.setChan_pending ..)

end Sys2Proof.Laws
end

section
/-! PROOFS. The end of a frame of a job (R36, R53 to R56, R61, R63, R64, R85, R100, R111): what the access keeps, the piece's
result, the next piece or the outcome; and the frames of a stale job. -/
namespace Sys2Proof.Laws

open Sys2Proof.Machine Sys2Proof.Safety

/-! ### Accesses -/

section
variable (a : Access) (q : Option Phase)

@[simp] theorem goTo_loc : (a.goTo q).1.loc = a.loc := by cases q <;> rfl
@[simp] theorem goTo_data : (a.goTo q).1.data = a.data := by cases q <;> rfl
@[simp] theorem goTo_first : (a.goTo q).1.first = a.first := by cases q <;> rfl
@[simp] theorem goTo_second : (a.goTo q).1.second = a.second := by cases q <;> rfl
@[simp] theorem goTo_failed : (a.goTo q).1.failed = a.failed := by cases q <;> rfl

end

section
variable (a : Access) (wants : Word → Bool)

/-- R36, R37: a frame that is answered is kept at the main read and at the confirm read. -/
theorem advance_answered (w : Word) :
    (a.advance wants (.answered w)).1.loc = a.loc ∧ (a.advance wants (.answered w)).1.data = a.data ∧
      (a.advance wants (.answered w)).1.failed = a.failed ∧
      (a.advance wants (.answered w)).1.first = (if a.phase = .main then some w else a.first) ∧
      (a.advance wants (.answered w)).1.second = (if a.phase = .confirm then some w else a.second) := by
  unfold Access.advance
  cases phase : a.phase with
  | main => dsimp only; split <;> simp
  | select => simp
  | reselect => simp
  | confirm => simp
  | restore => simp

/-- R36, R37: a main or confirm read that gets no answer fails the access. -/
theorem advance_noAnswer :
    (a.advance wants .noAnswer).1.loc = a.loc ∧ (a.advance wants .noAnswer).1.data = a.data ∧
      (a.advance wants .noAnswer).1.failed = (a.failed || decide (a.phase = .main) || decide (a.phase = .confirm)) ∧
      (a.advance wants .noAnswer).1.first = a.first ∧ (a.advance wants .noAnswer).1.second = a.second := by
  unfold Access.advance
  cases phase : a.phase <;> simp

/-- R36, R37: a write leaves what the access has kept. -/
theorem advance_written :
    (a.advance wants .written).1.loc = a.loc ∧ (a.advance wants .written).1.data = a.data ∧
      (a.advance wants .written).1.failed = a.failed ∧ (a.advance wants .written).1.first = a.first ∧
      (a.advance wants .written).1.second = a.second := by
  unfold Access.advance
  cases phase : a.phase <;> simp

end

/-- R4, R36: a word that shows LINK down or RFAULT true in a latching recipe with the confirm option. -/
theorem wantsConfirm_iff (f : Profile) (l : Location) (w : Word) :
    f.wantsConfirm l w = true ↔ ∃ i r, f.recipes.get i = some r ∧ r.loc = l ∧
      r.confirm = true ∧ (r.latch = .latchLow ∨ r.latch = .latchHigh) ∧
      ((i = .link ∧ f.value i r w = .flag false) ∨ (i = .rfault ∧ f.value i r w = .flag true)) := by
  have bad (i : Item) (v : ItemValue) :
      badValue i v = true ↔ (i = .link ∧ v = .flag false) ∨ (i = .rfault ∧ v = .flag true) := by
    cases i <;> simp [badValue]
  simp only [Profile.wantsConfirm, List.any_eq_true, Item.mem_all, true_and]
  refine exists_congr fun i => ?_
  cases f.recipes.get i with
  | none => simp
  | some r =>
    simp only [Profile.latched, Recipe.latching, Bool.and_eq_true, Bool.or_eq_true, decide_eq_true_eq, bad,
      Option.some.injEq, exists_eq_left', and_assoc]

/-! ### Pieces -/

theorem requires_eq (k : DeviceKind) : requires k = k.needs := by cases k <;> rfl

/-- R9, R11, R12: what a piece hands to the Port Table. -/
theorem pieceResult_eq (s : State) (j : Job) (a : Access) : s.pieceResult j a = pieceHanded s j a := by
  unfold State.pieceResult pieceHanded
  by_cases nothing : (j.stale || a.failed) = true
  · rw [if_pos nothing, if_pos (by simpa using nothing)]
  · obtain ⟨fresh, answered⟩ : j.stale = false ∧ a.failed = false := by simpa using nothing
    rw [if_neg nothing, if_neg (by simp [fresh, answered])]
    cases current : j.current <;>
      simp only [reduceCtorEq, false_and, true_and, if_false, State.storeIdentity, fresh, Bool.not_false, Bool.true_and,
        decide_eq_true_eq, State.takeFetch, Job.fetchResult, requires_eq]
    · split <;> rfl
    · by_cases state : (s.port j.port).state = j.kind.needs <;> simp [state]

/-- R53, R60, R63, R100: the end of a job that is not stale, outside SOFT_RESET. -/
theorem endJob_eq {s : State} {ch : Chan} {j : Job} (fresh : j.stale = false) (quiet : s.cu.softResetting = false)
    (o : JobOutcome) : s.endJob ch j o = jobEnded s ch j o := by
  have taken : s.jobOutcome j o = if (s.port j.port).state = requires j.kind then
      match j.kind with
      | .probe => s.probeOutcome j.port o
      | .presence => s.presenceOutcome j.port o
      | _ => s.scanOutcome j.port o
      else s := by
    unfold State.jobOutcome
    rw [requires_eq]
    by_cases state : (s.port j.port).state = j.kind.needs
    · rw [if_pos state]
      exact if_neg (by simp [fresh, quiet, state])
    · rw [if_neg state, if_pos (by simp [state])]
  unfold State.endJob jobEnded
  rw [taken]
  rfl

/-- R53, R85: the next piece of a job that is not stale, or its good end. -/
theorem continueJob_eq {s : State} {ch : Chan} {j : Job} (fresh : j.stale = false) (quiet : s.cu.softResetting = false) :
    s.continueJob ch j = jobNext s ch j := by
  unfold State.continueJob jobNext
  cases j.todo with
  | nil => exact endJob_eq fresh quiet .good
  | cons x rest => rfl

/-- R54: the identity differs from the expected one. -/
theorem mismatch_iff (b : Binding) (v : Identity) :
    b.mismatch v = true ↔ ∃ e, b.expected = some e ∧ (if b.ignoreRevision = true then v >>> 4 ≠ e >>> 4 else v ≠ e) := by
  unfold Binding.mismatch
  cases b.expected with
  | none => simp
  | some e => cases b.ignoreRevision <;> simp

theorem pieceHanded_failed {s : State} {j : Job} {a : Access} (h : a.failed = true) : pieceHanded s j a = s :=
  if_pos (.inr h)

/-- R9, R11: only an identity's low word and a fetch hand a result last. -/
theorem pieceHanded_of_other {s : State} {j : Job} {a : Access} (low : j.current ≠ .identLow) (fetch : j.current ≠ .fetch) :
    pieceHanded s j a = s := by
  unfold pieceHanded
  split
  · rfl
  · rw [if_neg fun h => low h.1, if_neg fun h => fetch h.1]

/-- R36, R111: a frame of a job has ended. -/
theorem jobFrameEnd_eq (s : State) (ch : Chan) (j : Job) (res : FrameResult) :
    s.jobFrameEnd ch j res =
      if (j.advance res).2 then s.pieceEnd ch j (j.advance res).1
      else s.setChan ch (jobHanded (s.chan ch) { j with access := (j.advance res).1 }) := by
  unfold State.jobFrameEnd
  dsimp only
  split <;> rfl

/-- A frame handed last ends its claim: the unit still holds the channel. -/
theorem afterUnit_of_held {s : State} {ch : Chan} (held : (s.chan ch).held.isSome = true) : s.afterUnit ch = s := if_pos held

section
variable {s : State} {ch : Chan} {j : Job} {f : FlyingFrame}

/-- R111: FRAME_END of a job outside an abort drain. -/
theorem takeFrameEnd_of_job (held : (s.chan ch).held = some (.job j)) (flying : (s.chan ch).frame = some f)
    (rate : f.rate.isSome = true) (drain : (s.chan ch).drain ≠ .abort) (ta : Bool) (data : Word) :
    s.takeFrameEnd ch ta data =
      ((frameOff s ch f ta data).jobFrameEnd ch j (frameResult f ta data)).afterUnit ch := by
  have still : ((frameOff s ch f ta data).chan ch).held = some (.job j) := by
    rw [frameOff, State.chan_setChan_self]
    exact held
  rw [takeFrameEnd_of_started flying rate]
  dsimp only
  rw [if_neg drain]
  simp only [State.unitFrameEnd, still]

/-- R36, R111: the next frame of the job's access is handed last. -/
theorem takeFrameEnd_of_job_going_on (held : (s.chan ch).held = some (.job j)) (flying : (s.chan ch).frame = some f)
    (rate : f.rate.isSome = true) (drain : (s.chan ch).drain ≠ .abort) {ta : Bool} {data : Word}
    (more : (j.advance (frameResult f ta data)).2 = false) :
    s.takeFrameEnd ch ta data =
      let x := frameOff s ch f ta data
      x.setChan ch (jobHanded (x.chan ch) { j with access := (j.advance (frameResult f ta data)).1 }) := by
  rw [takeFrameEnd_of_job held flying rate drain, jobFrameEnd_eq, if_neg (by simp [more])]
  refine afterUnit_of_held ?_
  rw [State.chan_setChan_self]
  rfl

end

/-- R53 to R55, R61, R64, R85: how a job that is not stale goes on when its piece has ended, outside SOFT_RESET. -/
theorem pieceEnd_cases {x : State} {ch : Chan} {j : Job} {a : Access} (fresh : j.stale = false)
    (quiet : x.cu.softResetting = false) :
    (a.failed = true → x.pieceEnd ch j a = jobEnded x ch j .noAnswer) ∧
    (a.failed = false →
      (j.current = .identHigh → x.pieceEnd ch j a = jobNext x ch { j with identHigh := a.first }) ∧
      (j.current = .identLow →
        (j.binding.mismatch (j.identity (a.first.getD 0)) = true →
          x.pieceEnd ch j a = jobEnded (pieceHanded x j a) ch j .identity) ∧
        (j.binding.mismatch (j.identity (a.first.getD 0)) = false →
          x.pieceEnd ch j a = jobNext (pieceHanded x j a) ch j)) ∧
      (j.current = .fetch → x.pieceEnd ch j a = jobNext (pieceHanded x j a) ch j) ∧
      (j.current = .markerRead →
        (a.first = j.profile.marker.map WriteStep.value → x.pieceEnd ch j a = jobNext x ch j) ∧
        (a.first ≠ j.profile.marker.map WriteStep.value →
          x.pieceEnd ch j a = jobEnded x ch j (if j.kind = .probe then .setup else .markerMismatch))) ∧
      (j.current ∈ [.setup, .markerWrite, .presence] → x.pieceEnd ch j a = jobNext x ch j)) := by
  have still : (pieceHanded x j a).cu.softResetting = false := by
    rw [← pieceResult_eq, (ongoing_pieceResult x j a).cu, quiet]
  have ends {o : JobOutcome} (verdict : j.verdict a = some o) :
      x.pieceEnd ch j a = jobEnded (pieceHanded x j a) ch j o := by
    unfold State.pieceEnd
    simp only [pieceResult_eq, verdict]
    exact endJob_eq fresh still o
  have goes (verdict : j.verdict a = none) : x.pieceEnd ch j a = jobNext (pieceHanded x j a) ch (j.kept a) := by
    have fresh' : (j.kept a).stale = false := by
      unfold Job.kept
      split <;> exact fresh
    unfold State.pieceEnd
    simp only [pieceResult_eq, verdict]
    exact continueJob_eq fresh' still
  refine ⟨fun failed => ?_, fun answered => ⟨fun current => ?_, fun current => ⟨fun differs => ?_, fun agrees => ?_⟩,
    fun current => ?_, fun current => ⟨fun agrees => ?_, fun differs => ?_⟩, fun current => ?_⟩⟩
  · rw [ends (o := .noAnswer) (by simp [Job.verdict, fresh, failed]), pieceHanded_failed failed]
  · rw [goes (by simp [Job.verdict, fresh, answered, current]), pieceHanded_of_other (by simp [current]) (by simp [current])]
    simp [Job.kept, current]
  · exact ends (by simp [Job.verdict, fresh, answered, current, show j.binding.mismatch (j.identity (a.first.getD 0#16)) = true from differs])
  · rw [goes (by simp [Job.verdict, fresh, answered, current, show j.binding.mismatch (j.identity (a.first.getD 0#16)) = false from agrees])]
    simp [Job.kept, current]
  · rw [goes (by simp [Job.verdict, fresh, answered, current])]
    simp [Job.kept, current]
  · rw [goes (by simp [Job.verdict, fresh, answered, current, agrees]),
      pieceHanded_of_other (by simp [current]) (by simp [current])]
    simp [Job.kept, current]
  · rw [ends (o := if j.kind = .probe then .setup else .markerMismatch)
        (by simp [Job.verdict, fresh, answered, current, differs]),
      pieceHanded_of_other (by simp [current]) (by simp [current])]
  · simp only [List.mem_cons, List.not_mem_nil, or_false] at current
    obtain current | current | current := current <;>
    · rw [goes (by simp [Job.verdict, fresh, answered, current]),
        pieceHanded_of_other (by simp [current]) (by simp [current])]
      simp [Job.kept, current]

/-- Settles O23: the access, the words that call for a confirm read, and the end of a frame of a job that is not stale. -/
theorem jobFrameEndGoesOnOrHandsOver : Obligations.JobFrameEndGoesOnOrHandsOver := by
  refine ⟨fun a wants res => ?_, wantsConfirm_iff, fun s ch j f ta data running quiet drain held fresh flying rate => ?_⟩
  · cases res with
    | answered w =>
      obtain ⟨loc, data, failed, first, second⟩ := advance_answered a wants w
      refine ⟨loc, data, ?_, nofun, nofun, fun other => absurd rfl (other w)⟩
      rintro _ ⟨⟩
      exact ⟨failed, first, second⟩
    | noAnswer =>
      obtain ⟨loc, data, failed, first, second⟩ := advance_noAnswer a wants
      exact ⟨loc, data, nofun, fun _ => failed, nofun, fun _ => ⟨first, second⟩⟩
    | written =>
      obtain ⟨loc, data, failed, first, second⟩ := advance_written a wants
      exact ⟨loc, data, nofun, nofun, fun _ => failed, fun _ => ⟨first, second⟩⟩
  · intro res x n a y v differs
    rw [exec_frameEnd running]
    refine ⟨fun more => congrArg _ (takeFrameEnd_of_job_going_on held flying rate drain more), fun ended => ?_⟩
    refine ⟨x.pieceEnd ch j a, _, rfl, ?_, ?_⟩
    · rw [takeFrameEnd_of_job held flying rate drain, jobFrameEnd_eq, if_pos (by exact ended)]
      exact unitFollowed_afterUnit _ ch
    · have quiet' : x.cu.softResetting = false := by simpa [x] using quiet
      obtain ⟨failed, answered⟩ := pieceEnd_cases (ch := ch) (a := a) fresh quiet'
      refine ⟨failed, fun h => ?_⟩
      obtain ⟨high, low, fetch, marker, others⟩ := answered h
      refine ⟨high, fun current => ?_, fetch, marker, others⟩
      obtain ⟨ends, goes⟩ := low current
      exact ⟨fun there => ends ((mismatch_iff _ _).mpr there), fun none_there =>
        goes (Bool.eq_false_iff.mpr fun there => none_there ((mismatch_iff _ _).mp there))⟩

/-! ### Stale jobs -/

/-- What a stale job's frame leaves: the records, the events, the flash machines and the profiles. -/
structure RecordsSame (s t : State) : Prop where
  pt : t.pt = s.pt
  ev : t.ev = s.ev
  ie : t.ie = s.ie
  ps : t.ps = s.ps

theorem RecordsSame.trans {s t u : State} (a : RecordsSame s t) (b : RecordsSame t u) : RecordsSame s u :=
  ⟨b.pt.trans a.pt, b.ev.trans a.ev, b.ie.trans a.ie, b.ps.trans a.ps⟩

theorem recordsSame_setChan (s : State) (ch : Chan) (c : Channel) : RecordsSame s (s.setChan ch c) := by
  cases ch <;> exact ⟨rfl, rfl, rfl, rfl⟩

theorem recordsSame_notice (s : State) (ch : Chan) : RecordsSame s (s.notice ch) :=
  have decided := notice_decided s ch
  ⟨decided.pt, decided.ev, decided.ie, decided.ps⟩

theorem recordsSame_drainReport {s : State} (quiet : s.cu.softResetting = false) (ch : Chan) :
    RecordsSame s (s.drainReport ch) := by
  obtain ⟨c, reported, -⟩ := drainReport_of_quiet quiet ch
  rw [reported]
  exact ⟨rfl, rfl, rfl, rfl⟩

/-- No stale job holds the channel. -/
def HoldsNoStale (s : State) (ch : Chan) : Prop := ∀ j, (s.chan ch).held = some (.job j) → j.stale = false

theorem holdsNoStale_of_free {s : State} {ch : Chan} (free : (s.chan ch).held = none) : HoldsNoStale s ch := fun j held => by
  simp [free] at held

/-- R12, R84: a grant gives the channel a job that is not stale. -/
theorem composeJob_fresh {s : State} {k : DeviceKind} {p : PortId} {j : Job} (h : s.composeJob k p = some j) :
    j.stale = false := by
  unfold State.composeJob at h
  split at h
  · simp at h
  · split at h
    · simp at h
    · split at h
      · simp at h
      · rw [← Option.some.inj h]

/-- R95: the decisions of a notice give the channel no stale job. -/
theorem holdsNoStale_notice {s : State} {ch : Chan} (h : HoldsNoStale s ch) : HoldsNoStale (s.notice ch) ch := by
  refine notice_keeps (P := fun t => HoldsNoStale t ch) (fun t before _ => ?_) h
  have looked : ((consulted t ch).chan ch).held = (t.chan ch).held := by rw [chan_consulted]
  obtain ⟨-, -, same⟩ | ⟨x, -, device⟩ | ⟨u, rest, -, -, host⟩ := decideOnce_cases t ch
  · rw [same]
    intro j held
    exact before j (looked ▸ held)
  · rw [device]
    intro j held
    unfold State.grantDevice at held
    dsimp only at held
    rw [State.chan_modChan_self] at held
    cases composed : (consulted t ch).composeJob x.1 x.2 with
    | none =>
      rw [composed] at held
      exact before j (looked ▸ held)
    | some k =>
      rw [composed] at held
      obtain rfl : k = j := by simpa [Channel.runJob, Channel.handOver] using held
      exact composeJob_fresh composed
  · rw [host]
    obtain ⟨l, ended⟩ | ⟨r, ran⟩ := hostProceed_cases ((consulted t ch).modChan ch fun c => hostGranted c rest) ch [] u
    · rw [ended]
      exact holdsNoStale_of_free (by cases ch <;> rfl)
    · rw [ran]
      intro j held
      rw [State.chan_modChan_self] at held
      simp [Channel.runHost, Channel.handOver] at held

/-- R64: the piece of a stale job that ends hands nothing last, and the job ends without an outcome. -/
theorem endJob_of_stale {s : State} {ch : Chan} {j : Job} (stale : j.stale = true) (o : JobOutcome) :
    s.endJob ch j o = s.setChan ch { s.chan ch with held := none } := by
  have nothing : s.jobOutcome j o = s := by simp [State.jobOutcome, stale]
  unfold State.endJob
  rw [nothing]
  rfl

theorem pieceResult_of_stale {s : State} {j : Job} (stale : j.stale = true) (a : Access) : s.pieceResult j a = s := by
  simp [State.pieceResult, stale]

theorem pieceEnd_of_stale {s : State} {ch : Chan} {j : Job} (stale : j.stale = true) (a : Access) :
    s.pieceEnd ch j a = s.setChan ch { s.chan ch with held := none } := by
  have verdict : j.verdict a = some .aborted := by simp [Job.verdict, stale]
  unfold State.pieceEnd
  simp only [pieceResult_of_stale stale, verdict]
  exact endJob_of_stale stale .aborted

/-- R117: in an abort drain a stale job ends with the frame in flight. -/
theorem abortFrameEnd_of_stale {s : State} {ch : Chan} {j : Job} (held : (s.chan ch).held = some (.job j))
    (stale : j.stale = true) (res : FrameResult) : s.abortFrameEnd ch res = s.setChan ch { s.chan ch with held := none } := by
  simp only [State.abortFrameEnd, held, pieceResult_of_stale stale, ite_self]
  exact endJob_of_stale stale .aborted

/-- R100, R116: the end of a unit outside SOFT_RESET changes no record and gives the channel no stale job. -/
theorem afterUnit_of_free {s : State} {ch : Chan} (free : (s.chan ch).held = none) (quiet : s.cu.softResetting = false) :
    RecordsSame s (s.afterUnit ch) ∧ HoldsNoStale (s.afterUnit ch) ch := by
  unfold State.afterUnit
  rw [if_neg (by simp [free])]
  split
  · unfold State.disableDrainEnd
    have quiet' : (s.modChan ch fun c => { c with state := .off, drain := .none, sched := c.sched.disable }).cu.softResetting =
        false := by simpa using quiet
    refine ⟨(recordsSame_setChan s ch _).trans (recordsSame_drainReport quiet' ch), ?_⟩
    obtain ⟨c, reported, -⟩ := drainReport_of_quiet quiet' ch
    rw [reported]
    refine holdsNoStale_of_free ?_
    rw [State.chan_with_cu, State.chan_modChan_self]
    exact free
  · exact ⟨recordsSame_notice s ch, holdsNoStale_notice (holdsNoStale_of_free free)⟩

/-- R117, R118: the end of an abort drain outside SOFT_RESET changes no record and gives the channel no stale job. -/
theorem abortDrain_of_free {s : State} {ch : Chan} (free : (s.chan ch).held = none) (quiet : s.cu.softResetting = false) :
    RecordsSame s (((s.abortDrainEnd ch).drainReport ch).notice ch) ∧
      HoldsNoStale (((s.abortDrainEnd ch).drainReport ch).notice ch) ch := by
  have quiet' : (s.abortDrainEnd ch).cu.softResetting = false := by rw [cu_abortDrainEnd, quiet]
  have drained : RecordsSame s (s.abortDrainEnd ch) := by cases ch <;> exact ⟨rfl, rfl, rfl, rfl⟩
  refine ⟨(drained.trans (recordsSame_drainReport quiet' ch)).trans (recordsSame_notice ..), holdsNoStale_notice ?_⟩
  obtain ⟨c, reported, -⟩ := drainReport_of_quiet quiet' ch
  rw [reported]
  refine holdsNoStale_of_free ?_
  rw [State.chan_with_cu, chan_abortDrainEnd]
  exact free

/-- Settles O22: the job goes on in its piece, or it ends and nothing of it is taken. -/
theorem staleJobChangesNoRecord : Obligations.StaleJobChangesNoRecord := by
  intro s ch j f ta data running quiet held stale flying rate res x n
  rw [exec_frameEnd running]
  have off : RecordsSame s x := recordsSame_setChan s ch _
  have quiet' : (x.setChan ch { x.chan ch with held := none }).cu.softResetting = false := by simpa [x] using quiet
  have free : ((x.setChan ch { x.chan ch with held := none }).chan ch).held = none := by rw [State.chan_setChan_self]
  have freed : RecordsSame s (x.setChan ch { x.chan ch with held := none }) := off.trans (recordsSame_setChan ..)
  have ends (drain : (s.chan ch).drain ≠ .abort) (last : n.2 = true) :
      s.takeFrameEnd ch ta data = (x.setChan ch { x.chan ch with held := none }).afterUnit ch := by
    rw [takeFrameEnd_of_job held flying rate drain, jobFrameEnd_eq, if_pos (by exact last), pieceEnd_of_stale stale]
    rfl
  refine ⟨⟨_, rfl, ?_⟩, fun drain => ⟨fun more => ?_, fun last => ?_⟩⟩
  · by_cases drain : (s.chan ch).drain = .abort
    · have still : (x.chan ch).held = some (.job j) := by
        rw [State.chan_setChan_self]
        exact held
      have aborted : s.takeFrameEnd ch ta data =
          (((x.setChan ch { x.chan ch with held := none }).abortDrainEnd ch).drainReport ch).notice ch := by
        rw [takeFrameEnd_of_started flying rate]
        dsimp only
        rw [if_pos drain]
        exact congrArg (fun y : State => ((y.abortDrainEnd ch).drainReport ch).notice ch) (abortFrameEnd_of_stale still stale res)
      obtain ⟨same, fresh⟩ := abortDrain_of_free free quiet'
      have all := freed.trans same
      rw [aborted]
      exact ⟨all.pt, all.ev, all.ie, all.ps, fun j' held' stale' => by simp [fresh j' held'] at stale'⟩
    · cases last : n.2 with
      | false =>
        have handed : s.takeFrameEnd ch ta data = x.setChan ch (jobHanded (x.chan ch) { j with access := n.1 }) :=
          takeFrameEnd_of_job_going_on held flying rate drain last
        have all := off.trans (recordsSame_setChan x ch (jobHanded (x.chan ch) { j with access := n.1 }))
        rw [handed]
        refine ⟨all.pt, all.ev, all.ie, all.ps, fun j' held' _ => ?_⟩
        rw [State.chan_setChan_self] at held'
        obtain rfl : { j with access := n.1 } = j' := by simpa [jobHanded, frameHanded] using held'
        exact ⟨rfl, rfl, rfl⟩
      | true =>
        obtain ⟨same, fresh⟩ := afterUnit_of_free free quiet'
        have all := freed.trans same
        rw [ends drain last]
        exact ⟨all.pt, all.ev, all.ie, all.ps, fun j' held' stale' => by simp [fresh j' held'] at stale'⟩
  · exact congrArg _ (takeFrameEnd_of_job_going_on held flying rate drain more)
  · refine ⟨_, rfl, ?_⟩
    rw [ends drain last]
    exact unitFollowed_afterUnit _ ch

end Sys2Proof.Laws
end

section
/-! PROOFS. The end of a frame of a host unit (R129 to R136), and the frame in flight of an abort drain (R116 to R118, R184,
R190). -/
namespace Sys2Proof.Laws

open Sys2Proof.Machine Sys2Proof.Safety

/-! ### What a host member offers -/

/-- R36: the access of a host member after a frame of it. -/
theorem memberAdvance_eq (m : HostMember) (res : FrameResult)
    [∀ w, Decidable (∃ g, m.profile = some g ∧ g.wantsConfirm m.access.loc w = true)] :
    m.advance res =
      m.access.advance (fun w => decide (∃ g, m.profile = some g ∧ g.wantsConfirm m.access.loc w = true)) res := by
  unfold HostMember.advance
  congr 1
  funext w
  rw [Bool.eq_iff_iff, decide_eq_true_iff]
  split <;> simp_all

/-- R109, R113: a host member's frame handed over. -/
theorem runHost_handed (c : Channel) (r : HostRun) : c.runHost r = hostHanded c r := by
  have omit_eq : r.current.mayOmit = (r.current.profile.map Profile.preamble).getD false := by
    unfold HostMember.mayOmit
    cases r.current.profile <;> rfl
  rw [runHost_eq, omit_eq]
  rfl

theorem namesDirect_iff (f : Profile) (reg : BusAddr) :
    f.namesDirect reg = true ↔ ∃ i c, f.recipes.get i = some c ∧ c.loc = .direct reg := by
  simp [Profile.namesDirect, Item.mem_all]

/-- R135 (a): the bound port at a place. -/
theorem portAt_eq_some {t : PortTable} (unique : UniqueLaw t) {p : PortId} {b : Binding} (bound : t.ports[p].bound = true)
    (binding : t.ports[p].binding = some b) : t.portAt b.channel b.device = some p := by
  cases found : t.portAt b.channel b.device with
  | none => exact absurd (by rw [binding]; rfl) (place_of_portAt found bound)
  | some q =>
    have there := List.find?_some found
    simp only [Bool.and_eq_true, decide_eq_true_eq] at there
    exact congrArg some (unique q p there.1 bound (there.2.trans (by rw [binding]; rfl)))

/-- R131, R135, R136: what a member whose frames have all ended offers. -/
theorem memberOffered_absorb (x : State) (ch : Chan) (m : HostMember) (a : Access) :
    MemberOffered x (x.absorb ch m a) ch m a := by
  refine ⟨fun failed => if_pos failed, fun d reg w op => ?_, fun d reg op answered unique => ?_,
    fun p item n f op profile answered => ?_⟩
  · simp [State.absorb, op]
  · have offered : x.absorb ch m a = x.absorbRaw ch d reg (a.first.getD 0) := by
      simp [State.absorb, answered, op]
    rw [offered]
    refine ⟨fun p f named => ?_, fun unnamed => ?_⟩
    · obtain ⟨active, ⟨b, binding, rfl, rfl, installed⟩, direct⟩ := named
      have bound : (x.port p).bound = true := bound_of_state active (by decide)
      simp only [State.absorbRaw, portAt_eq_some unique bound binding]
      rw [show (x.port p).binding = some b from binding]
      dsimp only
      rw [installed]
      dsimp only
      rw [if_pos ((namesDirect_iff f reg).mpr direct)]
      exact if_pos active
    · unfold State.absorbRaw
      split
      · rfl
      next p found =>
        have there := List.find?_some found
        simp only [Bool.and_eq_true, decide_eq_true_eq] at there
        split
        · rfl
        next b binding =>
          split
          · rfl
          next f installed =>
            split
            case isFalse => rfl
            case isTrue direct =>
              refine if_neg fun active => unnamed p f ⟨active, ⟨b, binding, ?_, ?_, installed⟩, (namesDirect_iff f reg).mp direct⟩
              · have place := there.2
                rw [show x.pt.ports[p].binding = some b from binding] at place
                simp only [Option.map_some, Option.some.injEq, Prod.mk.injEq] at place
                exact place.1
              · have place := there.2
                rw [show x.pt.ports[p].binding = some b from binding] at place
                simp only [Option.map_some, Option.some.injEq, Prod.mk.injEq] at place
                exact place.2
  · have offered : x.absorb ch m a = if m.stale then x else x.takeFetch .active
        { port := p, profile := f, loc := a.loc, cause := .host, first := a.first.getD 0, second := a.second } := by
      simp [State.absorb, answered, op, profile]
    rw [offered]
    refine ⟨fun still => ?_, fun fresh active => ?_⟩
    · obtain stale | inactive := still
      · simp [stale]
      · split
        · rfl
        · exact if_neg inactive
    · rw [if_neg (by simp [fresh])]
      exact if_pos active

/-! ### The members of a host unit -/

/-- Settles O38: the next frame or the member's end, and the members to come. -/
theorem hostFrameEndRunsTheUnitsMembers : Obligations.HostFrameEndRunsTheUnitsMembers := by
  refine ⟨fun s ch r f ta data running drain held flying rate => ?_, fun s ch done => ⟨?_, fun t rest => ?_⟩⟩
  · intro x m n
    have still : (x.chan ch).held = some (.host r) := by
      rw [State.chan_setChan_self]
      exact held
    have ends : s.takeFrameEnd ch ta data = (x.hostFrameEnd ch r (frameResult f ta data)).afterUnit ch := by
      rw [takeFrameEnd_of_started flying rate]
      dsimp only
      rw [if_neg drain]
      exact congrArg (fun y : State => y.afterUnit ch) (by simp only [State.unitFrameEnd, frameOff]; rw [still])
    have next : m.advance (frameResult f ta data) = n := memberAdvance_eq m _
    rw [exec_frameEnd running, ends]
    unfold State.hostFrameEnd
    dsimp only
    rw [show r.current.advance (frameResult f ta data) = n from next]
    refine ⟨fun more => ?_, fun ended => ⟨x.absorb ch m n.1, _, memberOffered_absorb x ch m n.1, rfl, ?_⟩⟩
    · rw [if_neg (by simp [more])]
      unfold State.modChan
      dsimp only
      rw [runHost_handed]
      refine congrArg _ (afterUnit_of_held ?_)
      rw [State.chan_setChan_self]
      rfl
    · rw [if_pos ended]
      exact unitFollowed_afterUnit _ ch
  · cases ch <;> rfl
  · intro without runs
    have handed (m : HostMember) :
        (s.modChan ch fun c => c.runHost ⟨done, m, rest⟩) = s.setChan ch (hostHanded (s.chan ch) ⟨done, m, rest⟩) := by
      unfold State.modChan
      dsimp only
      rw [runHost_handed]
    refine ⟨fun d reg op => ?_, fun d reg w op => ?_, fun p item n op => ⟨fun gone => ?_, fun b binding tied =>
      ⟨fun inactive => ?_, fun g c active installed has => ?_⟩⟩⟩
    · simp only [State.hostProceed, State.judge, op, handed]
      rfl
    · simp only [State.hostProceed, State.judge, op, handed]
      rfl
    · have ended : (s.port p).bindingEnded n = true := by simpa [PortRec.bindingEnded] using gone
      simp only [State.hostProceed, State.judge, op, ended, if_true]
      rfl
    · have there : (s.port p).bindingEnded n = false := by simp [PortRec.bindingEnded, binding, tied]
      simp only [State.hostProceed, State.judge, op, there, Bool.false_eq_true, if_false, inactive, ne_eq, not_false_eq_true,
        if_true]
      rfl
    · have there : (s.port p).bindingEnded n = false := by simp [PortRec.bindingEnded, binding, tied]
      simp only [State.hostProceed, State.judge, op, there, Bool.false_eq_true, if_false, active, ne_eq, not_true_eq_false,
        binding, installed, has, handed]
      rfl

end Sys2Proof.Laws
end

section
/-! PROOFS. The frame in flight of an abort drain, the channel commands and SOFT_RESET (R115 to R119, R184, R190). -/
namespace Sys2Proof.Laws

open Sys2Proof.Machine Sys2Proof.Safety

/-! ### What an observation leaves -/

theorem take_settings (e : EventBlock) (b : EventBody) (stamp : Word) : (e.take b stamp).1.softReset = e.softReset := by
  obtain ⟨-, taken⟩ | ⟨-, -, taken⟩ | ⟨-, -, taken⟩ := take_cases e b stamp
  · rw [taken]
    rfl
  · rw [taken]
    rfl
  · rw [taken]
    rfl

theorem posted_settings (e : EventBlock) (stamp : Word) (l : List EventBody) : (posted e stamp l).1.softReset = e.softReset := by
  induction l generalizing e with
  | nil => rfl
  | cons b l ih => exact (ih _).trans (take_settings e b stamp)

/-- R11 to R21: `t` is `s` after what a frame read has been offered to the Port Table: only records, events and flash machines
may differ, no record's state, binding or timers, and no setting of the event block. -/
structure Observed (s t : State) : Prop where
  blocks : t = { s with pt := { s.pt with ports := t.pt.ports }, ev := t.ev, ie := { s.ie with flash := t.ie.flash } }
  state : ∀ p, (t.port p).state = (s.port p).state
  binding : ∀ p, (t.port p).binding = (s.port p).binding
  probeRetry : ∀ p, (t.port p).probeRetry = (s.port p).probeRetry
  lostCheck : ∀ p, (t.port p).lostCheck = (s.port p).lostCheck
  settings : t.ev.softReset = s.ev.softReset

theorem Observed.refl (s : State) : Observed s s := ⟨rfl, fun _ => rfl, fun _ => rfl, fun _ => rfl, fun _ => rfl, rfl⟩

theorem Observed.chan {s t : State} (h : Observed s t) (ch : Chan) : t.chan ch = s.chan ch := by
  rw [h.blocks]
  cases ch <;> rfl

theorem Observed.cu {s t : State} (h : Observed s t) : t.cu = s.cu := by rw [h.blocks]

theorem observed_setPort {s : State} {p : PortId} {r : PortRec} (state : r.state = (s.port p).state)
    (binding : r.binding = (s.port p).binding) (probeRetry : r.probeRetry = (s.port p).probeRetry)
    (lostCheck : r.lostCheck = (s.port p).lostCheck) : Observed s (s.setPort p r) :=
  have apart := apart_setPort state binding probeRetry lostCheck
  ⟨rfl, apart.state, apart.binding, apart.probeRetry, apart.lostCheck, rfl⟩

theorem observed_applyFetch (s : State) (f : FetchResult) : Observed s (s.applyFetch f) := by
  obtain ⟨others, -⟩ := applyFetch_frame s f
  have own := port_applyFetch s f
  have read : ∀ {α : Type} (g : PortRec → α), g ((s.applyFetch f).port f.port) = g (s.port f.port) →
      ∀ q, g ((s.applyFetch f).port q) = g (s.port q) := by
    intro α g same q
    by_cases here : q = f.port
    · rw [here, same]
    · rw [others q here]
  refine ⟨?_, read _ (by rw [own]; rfl), read _ (by rw [own]; rfl), read _ (by rw [own]; rfl), read _ (by rw [own]; rfl), ?_⟩
  · rw [applyFetch_eq]
    dsimp only
    split <;> rfl
  · rw [applyFetch_eq]
    exact posted_settings ..

theorem observed_takeFetch (s : State) (need : PortState) (f : FetchResult) : Observed s (s.takeFetch need f) := by
  unfold State.takeFetch
  split
  · exact observed_applyFetch s f
  · exact .refl s

theorem observed_pieceResult (s : State) (j : Job) (a : Access) : Observed s (s.pieceResult j a) := by
  unfold State.pieceResult
  split
  · exact .refl s
  · split
    · unfold State.storeIdentity
      split
      · exact observed_setPort rfl rfl rfl rfl
      · exact .refl s
    · exact observed_takeFetch ..
    · exact .refl s

theorem observed_absorb (s : State) (ch : Chan) (m : HostMember) (a : Access) : Observed s (s.absorb ch m a) := by
  unfold State.absorb
  split
  · exact .refl s
  · split
    · unfold State.absorbRaw
      split
      · exact .refl s
      · split
        · exact .refl s
        · split
          · exact .refl s
          · split
            · exact observed_takeFetch ..
            · exact .refl s
    · split
      · exact .refl s
      · exact observed_takeFetch ..
    · exact .refl s

/-! ### The end of an abort drain -/

/-- R118: a channel without unit and frame at the end of an abort drain. -/
theorem drainedByAbort_eq (c : Channel) : { drainedByAbort c with held := none, frame := none } = aborted c := by
  unfold drainedByAbort aborted
  cases h : c.state <;> simp [ChanState.afterAbort, Scheduler.abortEnd, Scheduler.cutPass]

/-- R118 (a) to (c): the end of an abort drain of a channel without unit and frame. -/
theorem abortDrainEnd_eq (s : State) (ch : Chan) {c : Channel} (held : c.held = none) (frame : c.frame = none) :
    (s.setChan ch c).abortDrainEnd ch = State.setChan
      { s with ht := { s.ht with completions := s.ht.completions ++ allWith c.hostQueue.flatten .aborted } } ch
      (aborted c) := by
  have same : drainedByAbort c = aborted c := by
    rw [← drainedByAbort_eq]
    cases c
    simp_all [drainedByAbort]
  rw [← same]
  cases ch <;> rfl

/-- R117, R118: the part whose channel `c` has been freed of a unit that leaves the records `l` and the scheduler `q`, at the
end of its abort drain. -/
def drained (y : State) (ch : Chan) (c : Channel) (l : List Completion) (q : Scheduler) : State := State.setChan
  { y with ht := { y.ht with completions := y.ht.completions ++ l ++ allWith c.hostQueue.flatten .aborted } } ch
  (aborted { c with sched := q })

theorem abortDrainEnd_drained (y : State) (ch : Chan) {c : Channel} (frame : c.frame = none) (l : List Completion)
    (q : Scheduler) :
    (State.setChan { y with ht := { y.ht with completions := y.ht.completions ++ l } } ch
      { c with held := none, sched := q }).abortDrainEnd ch = drained y ch c l q := by
  exact (abortDrainEnd_eq _ ch (c := { c with held := none, sched := q }) rfl frame).trans rfl

theorem drained_withUnit (y : State) (ch : Chan) (c : Channel) (l : List Completion) (q : Scheduler) (u : CommandUnit) :
    { drained y ch c l q with cu := u } = State.setChan
      { y with
        cu := u
        ht := { y.ht with completions := y.ht.completions ++ l ++ allWith c.hostQueue.flatten .aborted } } ch
      (aborted { c with sched := q }) := by
  cases ch <;> rfl

/-- R117: what the unit that holds a channel leaves when the frame in flight of an abort drain ends. -/
structure AbortEnds (x : State) (ch : Chan) (res : FrameResult) (y : State) (l : List Completion) (q : Scheduler) : Prop where
  observed : Observed x y
  ends : x.abortFrameEnd ch res = State.setChan { y with ht := { y.ht with completions := y.ht.completions ++ l } } ch
    { x.chan ch with held := none, sched := q }

/-- R117, R59, R64: a job in an abort drain. -/
theorem abortEnds_job {x : State} {ch : Chan} {j : Job} (held : (x.chan ch).held = some (.job j)) (res : FrameResult)
    {q : Scheduler}
    (leaves : ∀ y, Observed x y → y.jobOutcome j .aborted = y.setChan ch { x.chan ch with sched := q }) :
    AbortEnds x ch res (if (j.advance res).2 = true then pieceHanded x j (j.advance res).1 else x) [] q := by
  have observed : Observed x (if (j.advance res).2 = true then pieceHanded x j (j.advance res).1 else x) := by
    rw [← pieceResult_eq]
    split
    · exact observed_pieceResult ..
    · exact .refl x
  refine ⟨observed, ?_⟩
  have ends : x.abortFrameEnd ch res =
      (if (j.advance res).2 = true then pieceHanded x j (j.advance res).1 else x).endJob ch j .aborted := by
    simp only [State.abortFrameEnd, held, pieceResult_eq]
  rw [ends, State.endJob, leaves _ observed]
  simp [State.modChan]

/-- R60, R64: a scan, a stale job or a job under SOFT_RESET in an abort drain. -/
theorem abortEnds_still {x : State} {ch : Chan} {j : Job} (held : (x.chan ch).held = some (.job j)) (res : FrameResult)
    (still : j.kind = .urgent ∨ j.kind = .regular ∨ j.stale = true ∨ x.cu.softResetting = true) :
    AbortEnds x ch res (if (j.advance res).2 = true then pieceHanded x j (j.advance res).1 else x) [] (x.chan ch).sched := by
  refine abortEnds_job held res fun y observed => ?_
  rw [jobOutcome_still (.inr rfl) (by rwa [observed.cu]), ← observed.chan, State.setChan_chan]

/-- R59: a probe or presence check in an abort drain goes back to the front of its queue. -/
theorem abortEnds_returned {x : State} {ch : Chan} {j : Job} {b : Binding} {k : ProbeKind}
    (held : (x.chan ch).held = some (.job j)) (res : FrameResult) (fresh : j.stale = false) (kind : j.kind = k.unit)
    (state : (x.port j.port).state = memberState k) (bound : (x.port j.port).binding = some b) (home : b.channel = ch)
    (quiet : x.cu.softResetting = false) :
    AbortEnds x ch res (if (j.advance res).2 = true then pieceHanded x j (j.advance res).1 else x) []
      (withProbeFirst (x.chan ch).sched j.port k) := by
  refine abortEnds_job held res fun y observed => ?_
  rw [jobOutcome_returned (b := b) (.inr rfl) fresh kind (by rw [observed.state, state]) (by rw [observed.binding, bound])
    (by rw [observed.cu, quiet]), home, observed.chan]

/-- R117: a host unit in an abort drain. -/
theorem abortEnds_host {x : State} {ch : Chan} {r : HostRun} (held : (x.chan ch).held = some (.host r)) (res : FrameResult) :
    ((r.current.advance res).2 = false →
      AbortEnds x ch res x (r.done ++ allWith (r.current.txn :: r.todo) .aborted) (x.chan ch).sched) ∧
    ((r.current.advance res).2 = true →
      AbortEnds x ch res (x.absorb ch r.current (r.current.advance res).1)
        (r.done ++ memberRecord r.current (r.current.advance res).1 :: allWith r.todo .aborted) (x.chan ch).sched) := by
  refine ⟨fun more => ⟨.refl x, ?_⟩, fun ended => ⟨observed_absorb .., ?_⟩⟩
  · have cut := cutUnit_eq (s := x) (ch := ch) (c := x.chan ch) (o := .aborted) (res := .aborted) (.inr rfl)
      (.inr (.inl ⟨r, held, rfl, rfl⟩))
    rw [State.setChan_chan] at cut
    simp only [State.abortFrameEnd, held, more, Bool.false_eq_true, if_false, cut]
  · have chan := (observed_absorb x ch r.current (r.current.advance res).1).chan ch
    simp only [State.abortFrameEnd, held, ended, if_true, State.endHost, State.modChan, State.chan_with_ht, chan]
    rfl

/-- With no unit on the channel there is nothing to end. -/
theorem abortEnds_none {x : State} {ch : Chan} (free : (x.chan ch).held = none) (res : FrameResult) :
    AbortEnds x ch res x [] (x.chan ch).sched := by
  have cut := cutUnit_eq (s := x) (ch := ch) (c := x.chan ch) (o := .aborted) (res := .aborted) (.inr rfl)
    (.inl ⟨free, rfl, rfl⟩)
  have nothing : x.abortFrameEnd ch res = x := by simp only [State.abortFrameEnd, free]
  have uncut : x.cutUnit ch .aborted .aborted = x := by simp only [State.cutUnit, free]
  rw [State.setChan_chan, uncut] at cut
  exact ⟨.refl x, nothing.trans cut⟩

/-- R190: under SOFT_RESET no unit's end changes the scheduler. -/
theorem abortEnds_resetting {x : State} (resetting : x.cu.softResetting = true) (ch : Chan) (res : FrameResult) :
    ∃ y l, AbortEnds x ch res y l (x.chan ch).sched := by
  cases held : (x.chan ch).held with
  | none => exact ⟨x, [], abortEnds_none held res⟩
  | some u =>
    cases u with
    | job j => exact ⟨_, [], abortEnds_still held res (.inr (.inr (.inr resetting)))⟩
    | host r =>
      cases ended : (r.current.advance res).2 with
      | false => exact ⟨_, _, (abortEnds_host held res).1 ended⟩
      | true => exact ⟨_, _, (abortEnds_host held res).2 ended⟩

/-- R117, R118, R184: FRAME_END in an abort drain. -/
theorem takeFrameEnd_of_draining {s : State} {ch : Chan} {f : FlyingFrame} (flying : (s.chan ch).frame = some f)
    (rate : f.rate.isSome = true) (drain : (s.chan ch).drain = .abort) {ta : Bool} {data : Word} {y : State}
    {l : List Completion} {q : Scheduler}
    (h : AbortEnds (frameOff s ch f ta data) ch (frameResult f ta data) y l q) :
    s.takeFrameEnd ch ta data =
      ((drained y ch (frameGone (s.chan ch) f (frameResult f ta data)) l q).drainReport ch).notice ch := by
  have gone : (frameOff s ch f ta data).chan ch = frameGone (s.chan ch) f (frameResult f ta data) := State.chan_setChan_self ..
  rw [takeFrameEnd_of_started flying rate]
  dsimp only
  rw [if_pos drain, h.ends, gone,
    abortDrainEnd_drained y ch (c := frameGone (s.chan ch) f (frameResult f ta data)) rfl l q]

/-! ### The reset of dynamic state -/

/-- R190: `t` has what the reset of dynamic state keeps of `s`, but for the Command Unit. -/
structure Configured (s t : State) : Prop where
  rstnLow : t.rstnLow = s.rstnLow
  pt : t.pt.softReset = s.pt.softReset
  ps : t.ps = s.ps
  ch0 : t.ch0.softReset = s.ch0.softReset
  ch1 : t.ch1.softReset = s.ch1.softReset
  ev : t.ev.softReset = s.ev.softReset
  ie : t.ie.softReset = s.ie.softReset
  spi : t.spi = s.spi
  stamp : t.stamp = s.stamp
  pending : t.pending = s.pending

theorem Configured.trans {s t u : State} (a : Configured s t) (b : Configured t u) : Configured s u :=
  ⟨b.rstnLow.trans a.rstnLow, b.pt.trans a.pt, b.ps.trans a.ps, b.ch0.trans a.ch0, b.ch1.trans a.ch1, b.ev.trans a.ev,
    b.ie.trans a.ie, b.spi.trans a.spi, b.stamp.trans a.stamp, b.pending.trans a.pending⟩

theorem configured_observed {s t : State} (h : Observed s t) : Configured s t := by
  have settings := h.settings
  rw [h.blocks] at settings ⊢
  exact ⟨rfl, rfl, rfl, rfl, rfl, settings, rfl, rfl, rfl, rfl⟩

theorem configured_setChan {s : State} {ch : Chan} {c : Channel} (kept : c.softReset = (s.chan ch).softReset) :
    Configured s (s.setChan ch c) := by
  cases ch
  · exact ⟨rfl, rfl, rfl, kept, rfl, rfl, rfl, rfl, rfl, rfl⟩
  · exact ⟨rfl, rfl, rfl, rfl, kept, rfl, rfl, rfl, rfl, rfl⟩

theorem configured_drained {y : State} {ch : Chan} {c : Channel} (l : List Completion) {q : Scheduler}
    (interval : q.passInterval = c.sched.passInterval) (kept : c.softReset = (y.chan ch).softReset) :
    Configured y (drained y ch c l q) := by
  have after : (aborted { c with sched := q }).softReset = c.softReset := by
    simp only [Channel.softReset, Scheduler.softReset, aborted, interval]
  have placed : Configured y { y with
      ht := { y.ht with completions := y.ht.completions ++ l ++ allWith c.hostQueue.flatten .aborted } } :=
    ⟨rfl, rfl, rfl, rfl, rfl, rfl, rfl, rfl, rfl, rfl⟩
  refine placed.trans (configured_setChan ?_)
  rw [State.chan_with_ht, after, kept]

/-- R190 (b): the reset of dynamic state depends on what it keeps alone. -/
theorem dynamicReset_of_configured {s t : State} (h : Configured s t) (c : CommandUnit) :
    { t.dynamicReset with cu := c } = softened s c := by
  obtain ⟨rstnLow, pt, ps, ch0, ch1, ev, ie, spi, stamp, pending⟩ := h
  unfold State.dynamicReset
  simp only [rstnLow, pt, ps, ch0, ch1, ev, ie, spi, stamp, pending]
  rfl

/-- R96, R97: with no work on either side a notice changes nothing. -/
theorem notice_of_nothing {s : State} {ch : Chan} (probes : (s.chan ch).sched.probes = [])
    (urgent : (s.chan ch).sched.urgent = []) (pass : (s.chan ch).sched.pass = none) (queue : (s.chan ch).hostQueue = []) :
    s.notice ch = s := by
  cases may : s.mayDecide ch with
  | false => exact notice_of_busy may
  | true =>
    have found : s.consult ch = ((s.chan ch).sched, none) := by simp only [State.consult, probes, urgent, pass]
    have ready : (s.chan ch).hostReady = false := by simp [Channel.hostReady, queue]
    have looked : consulted s ch = s := by
      unfold consulted State.modSched State.modChan
      rw [found]
      exact State.setChan_chan ..
    have decision : s.decideOnce ch = (s, false) := by
      have rule : s.decideOnce ch = (consulted s ch).turnRule ch (s.consult ch).2 := rfl
      rw [rule, looked, found]
      exact turnRule_of_nothing ready
    rw [notice_step may, decision]
    rfl

/-- R190: after the reset of dynamic state no arbiter finds work. -/
theorem notice_softened (s : State) (c : CommandUnit) (ch : Chan) : (softened s c).notice ch = softened s c :=
  notice_of_nothing (by cases ch <;> rfl) (by cases ch <;> rfl) (by cases ch <;> rfl) (by cases ch <;> rfl)

/-- R184, R190: the last drain that SOFT_RESET awaits has ended. -/
theorem drainReport_of_last {u : State} {ch : Chan} {w0 w1 : Bool} (timed : u.cu.timed = some ⟨20, w0, w1⟩)
    (last : (if ch = .ch0 then w1 else w0) = false) {s : State} (configured : Configured s u) :
    u.drainReport ch = softened s (completed u.cu 20) := by
  have reset : { u.dynamicReset with cu := u.dynamicReset.cu.completeTimed 20 } = softened s (completed u.cu 20) :=
    dynamicReset_of_configured configured _
  have none_left : ((⟨20, w0, w1⟩ : Timed).ended ch).wait0 = false ∧ ((⟨20, w0, w1⟩ : Timed).ended ch).wait1 = false := by
    cases ch <;> simpa [Timed.ended] using last
  have code : ((⟨20, w0, w1⟩ : Timed).ended ch).code = 20#8 := by cases ch <;> rfl
  simp only [State.drainReport, timed, none_left, code, Bool.or_self, Bool.false_eq_true, if_false, if_true]
  rw [show ({ u.dynamicReset with cu := u.dynamicReset.cu.completeTimed 20#8 } : State) = softened s (completed u.cu 20) from
    reset, notice_softened, notice_softened]

/-- R184, R190: the drain of one channel has ended while SOFT_RESET awaits the other. -/
theorem drainReport_of_waiting {u : State} {ch : Chan} {w0 w1 : Bool} (timed : u.cu.timed = some ⟨20, w0, w1⟩)
    (more : (if ch = .ch0 then w1 else w0) = true) :
    u.drainReport ch =
      { u with cu := { u.cu with timed := some ⟨20, w0 && decide (ch ≠ .ch0), w1 && decide (ch ≠ .ch1)⟩ } } := by
  cases ch
  · obtain rfl : w1 = true := by simpa using more
    simp [State.drainReport, timed, Timed.ended]
  · obtain rfl : w0 = true := by simpa using more
    simp [State.drainReport, timed, Timed.ended]

/-! ### The frame in flight of an abort drain -/

/-- Settles O40: what the unit leaves (`AbortEnds`), then the end of the drain under each timed command. -/
theorem drainsEndWithTheFrameInFlight : Obligations.DrainsEndWithTheFrameInFlight := by
  intro s ch f ta data running drain flying rate c res g x freed aboutJob aboutHost
  have chan : x.chan ch = g := State.chan_setChan_self ..
  have held {u : HeldUnit} (h : c.held = some u) : (x.chan ch).held = some u := by rw [chan]; exact h
  have sched : (x.chan ch).sched = c.sched := by rw [chan]; rfl
  have cu : x.cu = s.cu := State.setChan_cu ..
  have ends {y : State} {l : List Completion} {q : Scheduler} (h : AbortEnds x ch res y l q) :
      s.takeFrameEnd ch ta data = ((drained y ch g l q).drainReport ch).notice ch :=
    takeFrameEnd_of_draining flying rate drain h
  have host {r : HostRun} (h : c.held = some (.host r)) : ∃ y l, aboutHost r y l ∧ AbortEnds x ch res y l c.sched := by
    obtain ⟨more, ended⟩ := abortEnds_host (held h) res
    rw [sched] at more ended
    have advance := memberAdvance_eq r.current res
    cases last : (r.current.advance res).2 with
    | false =>
      refine ⟨_, _, ⟨fun _ => ⟨rfl, rfl⟩, fun there => ?_⟩, more last⟩
      rw [← advance, last] at there
      simp at there
    | true =>
      refine ⟨_, _, ⟨fun there => ?_, fun _ => ⟨?_, ?_⟩⟩, ended last⟩
      · rw [← advance, last] at there
        simp at there
      · rw [← advance]
        exact memberOffered_absorb ..
      · rw [← advance]
  have kept {y : State} {l : List Completion} {q : Scheduler} (h : AbortEnds x ch res y l q) :
      (drained y ch g l q).cu = s.cu := (State.setChan_cu ..).trans (h.observed.cu.trans cu)
  rw [exec_frameEnd running]
  refine ⟨fun awaited => ?_, fun w0 w1 timed => ⟨fun last => ?_, fun more => ?_⟩⟩
  · have quiet : x.cu.softResetting = false := by
      rw [cu, CommandUnit.softResetting, awaited]
      rfl
    have decided {y : State} {l : List Completion} {q : Scheduler} (h : AbortEnds x ch res y l q) :
        ∃ t, Host.Outcome.next (s.takeFrameEnd ch ta data) = (.next t : Host.Outcome State Fault Refusal) ∧
          DecidedFrom (freed y q l (completed s.cu 18)) t ch := by
      refine ⟨_, rfl, ?_⟩
      rw [ends h, drainReport_of_awaited (code := 18) ((congrArg CommandUnit.timed (kept h)).trans awaited) (by decide),
        kept h, drained_withUnit]
      exact notice_decided ..
    refine ⟨fun j job still => ?_, fun j b k job fresh kind state bound home => ?_, fun r unit => ?_⟩
    · have h := abortEnds_still (held job) res (still.imp_right (Or.imp_right .inl))
      rw [sched] at h
      obtain ⟨t, taken, from_⟩ := decided h
      exact ⟨_, t, rfl, taken, from_⟩
    · have h := abortEnds_returned (held job) res fresh kind
        ((congrArg PortRec.state (State.port_setChan ..)).trans state)
        ((congrArg PortRec.binding (State.port_setChan ..)).trans bound) home quiet
      rw [sched] at h
      obtain ⟨t, taken, from_⟩ := decided h
      exact ⟨_, t, rfl, taken, from_⟩
    · obtain ⟨y, l, about, h⟩ := host unit
      obtain ⟨t, taken, from_⟩ := decided h
      exact ⟨y, l, t, about, taken, from_⟩
  · have resetting : x.cu.softResetting = true := by
      rw [cu, CommandUnit.softResetting, timed]
      rfl
    obtain ⟨y, l, h⟩ := abortEnds_resetting resetting ch res
    have configured : Configured s (drained y ch g l (x.chan ch).sched) := by
      have same : g.softReset = c.softReset := rfl
      refine ((configured_setChan same).trans (configured_observed h.observed)).trans (configured_drained l ?_ ?_)
      · rw [sched]
        rfl
      · rw [h.observed.chan, chan]
    rw [ends h, drainReport_of_last ((congrArg CommandUnit.timed (kept h)).trans timed) last configured, kept h, notice_softened]
  · have resetting : x.cu.softResetting = true := by
      rw [cu, CommandUnit.softResetting, timed]
      rfl
    intro waiting
    have waits {y : State} {l : List Completion} {q : Scheduler} (h : AbortEnds x ch res y l q) :
        s.takeFrameEnd ch ta data = freed y q l waiting := by
      rw [ends h, drainReport_of_waiting ((congrArg CommandUnit.timed (kept h)).trans timed) more, kept h, drained_withUnit]
      refine notice_of_busy ?_
      simp [State.mayDecide, CommandUnit.softResetting]
    refine ⟨fun j job => ?_, fun r unit => ?_⟩
    · have h := abortEnds_still (held job) res (.inr (.inr (.inr resetting)))
      rw [sched] at h
      exact ⟨_, rfl, congrArg Host.Outcome.next (waits h)⟩
    · obtain ⟨y, l, about, h⟩ := host unit
      exact ⟨y, l, about, congrArg Host.Outcome.next (waits h)⟩

end Sys2Proof.Laws
end

section
/-! PROOFS. The channel commands by the channel's state, and SOFT_RESET (R115 to R119, R190). -/
namespace Sys2Proof.Laws

open Sys2Proof.Machine Sys2Proof.Safety

/-! ### CHANNEL_ENABLE, CHANNEL_RESTART -/

/-- R187: an answer shown after a change of a channel. -/
theorem setChan_showResult (s : State) (ch : Chan) (c : Channel) (code : BitVec 8) (a : Answer) :
    (s.setChan ch c).showResult code a = (s.showResult code a).setChan ch c := by
  cases ch <;> rfl

theorem onNamedChannel_out {s : State} {f : Chan → State × Answer} (out : 1 < s.argChannel) :
    s.onNamedChannel f = (s, .badArg 0) := by
  rw [State.onNamedChannel, chanOf_eq_none out]

theorem onNamedChannel_named {s : State} {f : Chan → State × Answer} {ch : Chan} (named : s.argChannel = chanNumber ch) :
    s.onNamedChannel f = f ch := by
  rw [State.onNamedChannel, named, chanOf_chanNumber]

/-- R117: what frees a channel whose frame, if any, has not started. -/
theorem beginAbort_of_unstarted {s : State} {ch : Chan} {c : Channel} (chan : s.chan ch = c) (unstarted : started c = false)
    {l : List Completion} {q : Scheduler} (cuts : Cuts s ch c .aborted l q) :
    s.beginAbort ch = (drained s ch { c with frame := none } l q, true) := by
  have freed : ((s.setChan ch { c with frame := none }).cutUnit ch .aborted .aborted).abortDrainEnd ch =
      drained s ch { c with frame := none } l q := by
    rw [cutUnit_eq (c := { c with frame := none }) (.inr rfl) (cuts.congr rfl rfl rfl rfl)]
    exact abortDrainEnd_drained s ch (c := { c with frame := none }) rfl l q
  unfold State.beginAbort
  rw [chan]
  split
  · next f flying =>
    have waiting : f.rate.isSome = false := by simpa [started, flying] using unstarted
    rw [if_neg (by simp [waiting]), State.modChan, chan]
    exact congrArg (·, true) freed
  · next none_there =>
    have same : s.setChan ch { c with frame := none } = s := by
      rw [show { c with frame := none } = c by cases c; simp_all, ← chan, State.setChan_chan]
    rw [← freed, same]

/-- R117: with a frame on the lines the drain goes on. -/
theorem beginAbort_of_started {s : State} {ch : Chan} {c : Channel} (chan : s.chan ch = c) (running : started c = true) :
    s.beginAbort ch = (s.setChan ch { c with state := .draining, drain := .abort }, false) := by
  unfold State.beginAbort
  rw [chan]
  cases flying : c.frame with
  | none => simp [started, flying] at running
  | some f =>
    have on : f.rate.isSome = true := by simpa [started, flying] using running
    simp only [on, State.modChan, chan, flying, if_true]

/-- Settles O41: each command on the channel named, by its state. -/
theorem channelCommandsActByState : Obligations.ChannelCommandsActByState := by
  intro hi s ready
  refine ⟨fun out => ⟨?_, ?_, ?_, fun m => ?_⟩, fun ch named => ?_⟩
  · exact (exec_taken (d := takeChannelAbort) rfl ready (onNamedChannel_out (s := delivered s hi 18) out)).trans rfl
  · exact (exec_taken (d := takeChannelEnable) rfl ready (onNamedChannel_out (s := delivered s hi 17) out)).trans rfl
  · exact (exec_taken (d := takeChannelEnable) rfl ready (onNamedChannel_out (s := delivered s hi 17) out)).trans rfl
  · exact (exec_taken (d := takeChannelRestart m) rfl ready (onNamedChannel_out (s := delivered s hi 19) out)).trans rfl
  intro c done gone
  have enableOn (on : s.argOn = true) {t : State} {a : Answer} (h : (delivered s hi 17).enableOn ch = (t, a)) :
      exec (.channelEnableOn hi) s = .next (t.showResult 17 a) := by
    refine exec_taken (d := takeChannelEnable) rfl ready ?_
    rw [takeChannelEnable, onNamedChannel_named (s := delivered s hi 17) named, if_pos (show (delivered s hi 17).argOn = true from on), h]
  have enableOff (off : s.argOn = false) {t : State} {a : Answer} (h : (delivered s hi 17).enableOff ch = (t, a)) :
      exec (.channelEnableOff hi) s = .next (t.showResult 17 a) := by
    refine exec_taken (d := takeChannelEnable) rfl ready ?_
    have off' : (delivered s hi 17).argOn = false := off
    rw [takeChannelEnable, onNamedChannel_named (s := delivered s hi 17) named, off', if_neg nofun, h]
  have abort {t : State} {a : Answer} (h : (delivered s hi 18).abortChannel ch = (t, a)) :
      exec (.channelAbort hi) s = .next (t.showResult 18 a) := by
    refine exec_taken (d := takeChannelAbort) rfl ready ?_
    rw [takeChannelAbort, onNamedChannel_named (s := delivered s hi 18) named, h]
  have restart {m : Bool} {t : State} {a : Answer} (h : (delivered s hi 19).restartChannel m ch = (t, a)) :
      exec (.channelRestart hi m) s = .next (t.showResult 19 a) := by
    refine exec_taken (d := takeChannelRestart m) rfl ready ?_
    rw [takeChannelRestart, onNamedChannel_named (s := delivered s hi 19) named, h]
  have chan (code : BitVec 8) : (delivered s hi code).chan ch = c := delivered_chan ..
  have turnOff (off : s.argOn = false)
      (free : c.state = .halted ∨ ((c.state = .idle ∨ c.state = .busy) ∧ c.held = none ∧ c.frame = none)) :
      exec (.channelEnableOff hi) s = .next (done.setChan ch (turnedOff c)) := by
    have taken : (delivered s hi 17).enableOff ch = ((delivered s hi 17).setChan ch (turnedOff c), .done) := by
      unfold State.enableOff
      dsimp only
      rw [State.modChan, chan]
      obtain state | ⟨state | state, held, frame⟩ := free
      · simp only [state]
        rfl
      · simp only [state, held, frame]
        rfl
      · simp only [state, held, frame]
        rfl
    rw [enableOff off taken, setChan_showResult]
    rfl
  refine ⟨fun on => ⟨fun there => ?_, fun state => ?_⟩, fun off => ⟨fun state => ?_, turnOff off, fun state held => ?_⟩,
    fun running => ?_, fun unstarted => ?_, fun state m => ?_, fun state => ⟨?_, ?_⟩⟩
  · exact (enableOn on (by rw [State.enableOn, chan, if_neg there])).trans rfl
  · refine ⟨_, enableOn on (by rw [State.enableOn, chan, if_pos state]), ?_⟩
    rw [showResult_notice, State.modChan, chan, setChan_showResult]
    exact notice_decided ..
  · have idle : (delivered s hi 17).enableOff ch = (delivered s hi 17, .done) := by simp only [State.enableOff, chan, state]
    exact (enableOff off idle).trans rfl
  · have taken : (delivered s hi 17).enableOff ch =
        ((State.setChan (delivered s hi 17) ch { c with enabled := false, state := .draining, drain := .disable }).startTimed 17
          (decide (ch = .ch0)) (decide (ch = .ch1)), .inProgress) := by
      have unfree : (c.held.isNone && c.frame.isNone) = false := by
        cases h : c.held <;> simp_all
      unfold State.enableOff
      dsimp only
      rw [State.modChan, State.modChan, chan, unfree]
      obtain state | state := state <;> simp [state]
    rw [enableOff off taken]
    cases ch <;> rfl
  · have taken : (delivered s hi 18).abortChannel ch =
        ((State.setChan (delivered s hi 18) ch { c with state := .draining, drain := .abort }).startTimed 18
          (decide (ch = .ch0)) (decide (ch = .ch1)), .inProgress) := by
      rw [State.abortChannel, beginAbort_of_started (chan 18) running]
      exact if_neg nofun
    rw [abort taken]
    cases ch <;> rfl
  · have aborts {l : List Completion} {q : Scheduler} (cuts : Cuts s ch c .aborted l q) :
        ∃ t, exec (.channelAbort hi) s = .next t ∧ DecidedFrom (gone q l) t ch := by
      have cut : Cuts (delivered s hi 18) ch c .aborted l q := cuts
      have taken : (delivered s hi 18).abortChannel ch =
          ((drained (delivered s hi 18) ch { c with frame := none } l q).notice ch, .done) := by
        rw [State.abortChannel, beginAbort_of_unstarted (chan 18) unstarted cut]
        exact if_pos rfl
      refine ⟨_, abort taken, ?_⟩
      rw [showResult_notice, drained, setChan_showResult]
      exact notice_decided ..
    refine ⟨fun held => ?_, fun r held => ?_, fun j held still => ?_, fun j b k held fresh kind state bound home => ?_⟩
    · exact aborts (.inl ⟨held, rfl, rfl⟩)
    · exact aborts (.inr (.inl ⟨r, held, rfl, rfl⟩))
    · exact aborts (.inr (.inr (.inl ⟨j, held, still.imp_right (Or.imp_right .inl), rfl, rfl⟩)))
    · exact aborts (.inr (.inr (.inr ⟨j, b, k, held, fresh, kind, state, bound, home,
        by simp [CommandUnit.softResetting, ready.timed], rfl, rfl⟩)))
  · exact (restart (by rw [State.restartChannel, chan, if_pos state])).trans rfl
  · have low : (delivered s hi 19).restartChannel false ch =
        ((delivered s hi 19).setChan ch { c with mdioHigh := false }, .refuse .fault) := by
      simp [State.restartChannel, chan, state, State.modChan]
    rw [restart low, setChan_showResult]
    rfl
  · have high : (delivered s hi 19).restartChannel true ch =
        (((delivered s hi 19).setChan ch { c with mdioHigh := true, state := .idle, established := 0 }).notice ch, .done) := by
      simp [State.restartChannel, chan, state, State.modChan]
    refine ⟨_, restart high, ?_⟩
    rw [showResult_notice, setChan_showResult]
    exact notice_decided ..

/-! ### SOFT_RESET -/

/-- R190, R117: under SOFT_RESET an abort drain begins, and ends at once with no frame on the lines. -/
theorem beginAbort_of_resetting {s : State} {ch : Chan} {c : Channel} (chan : s.chan ch = c)
    (resetting : s.cu.softResetting = true) :
    s.beginAbort ch = (State.setChan
      { s with ht := { s.ht with completions := s.ht.completions ++ drainRecords c } } ch (drainBegun c), !started c) := by
  cases running : started c with
  | true =>
    rw [beginAbort_of_started chan running, drainRecords, drainBegun, if_pos running, if_pos running, List.append_nil]
    rfl
  | false =>
    have cut {l : List Completion} (cuts : Cuts s ch c .aborted l c.sched) :
        s.beginAbort ch = (State.setChan
          { s with ht := { s.ht with completions := s.ht.completions ++ (l ++ allWith c.hostQueue.flatten .aborted) } } ch
          (drainBegun c), !false) := by
      rw [beginAbort_of_unstarted chan running cuts, drainBegun, if_neg (by simp [running]), ← List.append_assoc]
      rfl
    rw [drainRecords, if_neg (by simp [running])]
    cases held : c.held with
    | none => exact cut (.inl ⟨held, rfl, rfl⟩)
    | some u =>
      cases u with
      | job j => exact cut (.inr (.inr (.inl ⟨j, held, .inr (.inr (.inr resetting)), rfl, rfl⟩)))
      | host r => exact cut (.inr (.inl ⟨r, held, rfl, rfl⟩))

theorem softReset_drainBegun (c : Channel) : (drainBegun c).softReset = c.softReset := by
  unfold drainBegun
  split <;> rfl

/-- R190, R184: SOFT_RESET by what the two drains leave where they begin. -/
theorem takeSoftReset_of_drains {s t u : State} {b0 b1 : Bool} (first : (s.startTimed 20#8 true true).beginAbort .ch0 = (t, b0))
    (second : t.beginAbort .ch1 = (u, b1)) :
    takeSoftReset s =
      if b0 && b1 then
        (({ u.dynamicReset with cu := { u.cu with timed := none } }.notice .ch0).notice .ch1, .done)
      else (u.startTimed 20#8 (!b0) (!b1), .inProgress) := by
  unfold takeSoftReset
  simp only [first, second]
  rfl

/-- R190, R117: the part once SOFT_RESET has begun both drains. -/
def drainsBegun (s : State) : State :=
  { s with
    ch0 := drainBegun s.ch0
    ch1 := drainBegun s.ch1
    ht := { s.ht with completions := s.ht.completions ++ drainRecords s.ch0 ++ drainRecords s.ch1 } }

theorem takeSoftReset_eq (s : State) :
    takeSoftReset s =
      if started s.ch0 || started s.ch1 then
        ((drainsBegun s).startTimed 20#8 (started s.ch0) (started s.ch1), .inProgress)
      else (softened s { s.cu with timed := none }, .done) := by
  have first := beginAbort_of_resetting (s := s.startTimed 20#8 true true) (ch := .ch0) (c := s.ch0) rfl rfl
  have second := beginAbort_of_resetting
    (s := State.setChan { s.startTimed 20#8 true true with
        ht := { s.ht with completions := s.ht.completions ++ drainRecords s.ch0 } } .ch0 (drainBegun s.ch0))
    (ch := .ch1) (c := s.ch1) rfl rfl
  have configured : Configured s (drainsBegun s) :=
    ⟨rfl, rfl, rfl, softReset_drainBegun _, softReset_drainBegun _, rfl, rfl, rfl, rfl, rfl⟩
  have reset := dynamicReset_of_configured configured { s.cu with timed := none }
  rw [takeSoftReset_of_drains first second]
  cases started s.ch0 <;> cases started s.ch1
  · refine Prod.ext ?_ rfl
    exact (congrArg (fun t => (State.notice t .ch0).notice .ch1) reset).trans
      ((congrArg (State.notice · .ch1) (notice_softened ..)).trans (notice_softened ..))
  all_goals rfl

/-- Settles O42: both channels begin their drains; with both ended the dynamic state is reset. -/
theorem softResetKeepsTheConfiguration : Obligations.SoftResetKeepsTheConfiguration := by
  intro hi s ready
  have taken := takeSoftReset_eq (delivered s hi 20)
  refine ⟨fun quiet0 quiet1 => ?_, fun running => ?_⟩
  · have still : ¬(started (delivered s hi 20).ch0 || started (delivered s hi 20).ch1) = true := by
      simp only [delivered, quiet0, quiet1]
      decide
    rw [if_neg still] at taken
    rw [exec_taken (d := takeSoftReset) rfl ready taken, show (none : Option Timed) = s.cu.timed from ready.timed.symm]
    rfl
  · rw [if_pos (show (started (delivered s hi 20).ch0 || started (delivered s hi 20).ch1) = true from running)] at taken
    rw [exec_taken (d := takeSoftReset) rfl ready taken]
    rfl

end Sys2Proof.Laws
end

section
/-! PROOFS. The SPI target port: the bits of words, and the words that a transaction writes (R174 to R176). -/
namespace Sys2Proof.Laws

open Sys2Proof.Machine Sys2Proof.Safety

/-! ### The bits of a word, most significant first -/

@[simp] theorem numberOf_nil : numberOf [] = 0 := rfl

@[simp] theorem numberOf_concat (l : List Bool) (b : Bool) : numberOf (l ++ [b]) = 2 * numberOf l + bitN b := by
  simp [numberOf]

/-- Bits `m + n - 1` down to `m` of a number, most significant first. -/
def bitsDown (x m n : Nat) : List Bool := (List.range n).map fun k => x.testBit (m + (n - 1 - k))

theorem bitsDown_succ (x m n : Nat) : bitsDown x m (n + 1) = bitsDown x (m + 1) n ++ [x.testBit m] := by
  rw [bitsDown, List.range_succ, List.map_append]
  refine congr (congrArg _ (List.map_congr_left fun k below => ?_)) (by simp)
  have : k < n := List.mem_range.mp below
  congr 1
  omega

theorem numberOf_bitsDown (x : Nat) : ∀ n m, numberOf (bitsDown x m n) = x / 2 ^ m % 2 ^ n
  | 0, m => by simp [bitsDown, Nat.mod_one]
  | n + 1, m => by
    have low : bitN (x.testBit m) = x / 2 ^ m % 2 := by
      rw [Nat.testBit_eq_decide_div_mod_eq]
      have : x / 2 ^ m % 2 < 2 := Nat.mod_lt _ (by decide)
      by_cases h : x / 2 ^ m % 2 = 1 <;> simp [bitN, h]
      omega
    rw [bitsDown_succ, numberOf_concat, numberOf_bitsDown x n (m + 1), low, Nat.pow_succ, ← Nat.div_div_eq_div_mul,
      Nat.pow_succ', Nat.mod_mul]
    omega

theorem wordBits_eq (w : Word) : wordBits w = bitsDown w.toNat 0 16 := by
  simp only [wordBits, bitsDown, Nat.zero_add]
  rfl

theorem wordBits_length (w : Word) : (wordBits w).length = 16 := by simp [wordBits]

/-- R174: a word read back from its bits. -/
theorem word_of_wordBits (w : Word) : BitVec.ofNat 16 (numberOf (wordBits w)) = w := by
  rw [wordBits_eq, numberOf_bitsDown]
  apply BitVec.eq_of_toNat_eq
  simpa using w.isLt

theorem testBit_concat (l : List Bool) (b : Bool) :
    (numberOf (l ++ [b])).testBit 0 = b ∧ ∀ i, (numberOf (l ++ [b])).testBit (i + 1) = (numberOf l).testBit i := by
  rw [numberOf_concat]
  refine ⟨?_, fun i => ?_⟩
  · cases b <;> simp [bitN, Nat.testBit_zero]
  · rw [Nat.testBit_succ]
    congr 1
    have : bitN b < 2 := by cases b <;> decide
    omega

theorem bitsDown_numberOf (l : List Bool) : bitsDown (numberOf l) 0 l.length = l := by
  induction l using List.reverseRecOn with
  | nil => rfl
  | append_singleton l b ih =>
    obtain ⟨low, high⟩ := testBit_concat l b
    rw [List.length_append, List.length_singleton, bitsDown_succ, low]
    refine congrArg (· ++ [b]) (Eq.trans (List.map_congr_left fun k _ => ?_) ih)
    rw [show 0 + 1 + (l.length - 1 - k) = (0 + (l.length - 1 - k)) + 1 by omega, high]

theorem numberOf_lt (l : List Bool) : numberOf l < 2 ^ l.length := by
  induction l using List.reverseRecOn with
  | nil => decide
  | append_singleton l b ih =>
    rw [numberOf_concat, List.length_append, List.length_singleton, Nat.pow_succ]
    have : bitN b ≤ 1 := by cases b <;> decide
    omega

/-- R174: the bits of the word that sixteen bits give. -/
theorem wordBits_of_word {l : List Bool} (whole : l.length = 16) : wordBits (BitVec.ofNat 16 (numberOf l)) = l := by
  have small : numberOf l < 2 ^ 16 := whole ▸ numberOf_lt l
  rw [wordBits_eq, BitVec.toNat_ofNat, Nat.mod_eq_of_lt small]
  have back := bitsDown_numberOf l
  rwa [whole] at back

/-! ### The words of a transaction -/

/-- R174: whole words in front are taken one by one, and trailing bits short of a word are discarded. -/
theorem spiWords_of_words {tail : List Bool} (partialWord : tail.length < 16) :
    ∀ (ws : List Word) (fuel : Nat), ws.length ≤ fuel → spiWords fuel (ws.flatMap wordBits ++ tail) = ws
  | [], 0, _ => rfl
  | [], fuel + 1, _ => by simp [spiWords, partialWord]
  | w :: ws, fuel + 1, enough => by
    have rest := spiWords_of_words partialWord ws fuel (Nat.le_of_succ_le_succ enough)
    have split : (w :: ws).flatMap wordBits ++ tail = wordBits w ++ (ws.flatMap wordBits ++ tail) := by simp
    rw [split, spiWords, if_pos (by simp [wordBits_length]), List.take_left' (wordBits_length w),
      List.drop_left' (wordBits_length w), word_of_wordBits, rest]

theorem burst_length (a : BitVec 7) (ws : List Word) : (burst a ws).length = ws.length := by
  induction ws generalizing a with
  | nil => rfl
  | cons w ws ih => simp [burst, ih]

/-- R175: the addresses of a burst. -/
theorem burst_getElem? (a : BitVec 7) (ws : List Word) (k : Nat) :
    (burst a ws)[k]? = ws[k]?.map fun w => (BitVec.ofNat 7 (a.toNat + k), w) := by
  induction ws generalizing a k with
  | nil => rfl
  | cons w ws ih =>
    cases k with
    | zero => simp [burst]
    | succ k =>
      rw [burst, List.getElem?_cons_succ, ih, List.getElem?_cons_succ]
      congr 2
      funext w
      congr 1
      apply BitVec.eq_of_toNat_eq
      simp
      omega

/-- Figure 10-1: the command byte of a transaction. -/
def commandByte (r : Bool) (a : BitVec 7) : List Bool := r :: (List.range 7).map fun k => a.getLsbD (6 - k)

theorem spiCommand_of_byte (r : Bool) (a : BitVec 7) (l : List Bool) : spiCommand (commandByte r a ++ l) = some (r, a) := by
  have seven : (List.range 7).map (fun k => a.getLsbD (6 - k)) = bitsDown a.toNat 0 7 := by
    simp only [bitsDown, Nat.zero_add]
    rfl
  have address : BitVec.ofNat 7 (numberOf (bitsDown a.toNat 0 7)) = a := by
    rw [numberOf_bitsDown]
    apply BitVec.eq_of_toNat_eq
    simpa using a.isLt
  have length : (commandByte r a).length = 8 := by simp [commandByte]
  rw [spiCommand, if_pos (by simp [length]), List.take_left' length, commandByte, seven, List.drop_succ_cons, List.drop_zero,
    address]
  rfl

/-- R174, R175: the writes of a transaction with a complete command byte. -/
theorem spiWrites_of_byte (r : Bool) (a : BitVec 7) (l : List Bool) :
    spiWrites (commandByte r a ++ l) = if r then [] else burst a (spiWords (8 + l.length) l) := by
  have length : (commandByte r a).length = 8 := by simp [commandByte]
  rw [spiWrites, spiCommand_of_byte, List.drop_left' length, List.length_append, length]
  cases r <;> rfl

/-- Settles O9: the command byte, the whole words, and their addresses. -/
theorem spiBurstWritesItsWords : Obligations.SpiBurstWritesItsWords := by
  intro a ws tail short byte
  have words : spiWords (8 + (ws.flatMap wordBits ++ tail).length) (ws.flatMap wordBits ++ tail) = ws := by
    refine spiWords_of_words short ws _ ?_
    have : (ws.flatMap wordBits).length = 16 * ws.length := by
      simp [List.length_flatMap, wordBits_length, Nat.mul_comm]
    simp only [List.length_append]
    omega
  have written : spiWrites (byte false ++ ws.flatMap wordBits ++ tail) = burst a ws := by
    rw [List.append_assoc]
    refine (spiWrites_of_byte false a _).trans ?_
    rw [words]
    rfl
  refine ⟨written ▸ burst_length a ws, fun k w there => ?_, ?_⟩
  · rw [written, burst_getElem?, there]
    rfl
  · rw [List.append_assoc]
    exact (spiWrites_of_byte true a _).trans rfl

end Sys2Proof.Laws
end

section
/-! PROOFS. What the window shows of the state (R175, R178 to R181, R187, Figures 10-2 to 10-8). -/
namespace Sys2Proof.Laws

open Sys2Proof.Machine Sys2Proof.Safety

/-! ### Codes -/

theorem code_of_resultCodes {x : ResultCode × Nat} (h : x ∈ resultCodes) : x.1.code = x.2 := by
  revert x
  decide

theorem code_of_conditionCodes {x : Condition × Nat} (h : x ∈ conditionCodes) : x.1.code = x.2 := by
  revert x
  decide

theorem code_of_patternCodes {x : PatternKind × Nat} (h : x ∈ patternCodes) : x.1.code = x.2 := by
  revert x
  decide

theorem resultCode_lt (r : ResultCode) : r.code < 16 := by cases r <;> decide
theorem conditionCode_lt (c : Condition) : c.code < 16 := by cases c <;> decide
theorem patternCode_lt (k : PatternKind) : k.code < 8 := by cases k <;> decide
theorem speedCode_lt (c : SpeedCode) : c.code < 4 := by cases c <;> decide
theorem chanState_lt (x : ChanState) : x.code < 8 := by cases x <;> decide

/-! ### Global status (R179) -/

/-- 02H: the code of the timed command in progress, or of the last one. -/
def statusCode (s : State) : Nat :=
  match s.cu.timed with
  | some t => t.code.toNat
  | none => (s.cu.lastTimed.map fun l => l.1.toNat).getD 0

/-- 02H: the result of the last timed command. -/
def statusResult (s : State) : Nat := (s.cu.lastTimed.map fun l => l.2.code).getD 0

theorem readWord_status (s : State) : s.readWord 0x02 =
    word [(bitN s.cu.timed.isSome, 0), (statusCode s, 1), (statusResult s, 6), (bitN s.ev.overflow, 10)] := rfl

theorem total_status (s : State) :
    total [(bitN s.cu.timed.isSome, 0), (statusCode s, 1), (statusResult s, 6), (bitN s.ev.overflow, 10)] =
      bitN s.cu.timed.isSome + statusCode s * 2 + statusResult s * 64 + bitN s.ev.overflow * 1024 := by
  simp [total, Nat.add_assoc]

theorem status_busy (s : State) : (s.readWord 0x02).getLsbD 0 = s.cu.timed.isSome := by
  have busy := bitN_lt s.cu.timed.isSome
  rw [readWord_status]
  refine bit_word (by decide) ?_
  rw [total_status]
  omega

theorem status_fields {s : State} (known : statusCode s ≤ 20) :
    bits (s.readWord 0x02) 1 5 = statusCode s ∧ bits (s.readWord 0x02) 6 4 = statusResult s ∧
    (s.readWord 0x02).getLsbD 10 = s.ev.overflow := by
  have busy := bitN_lt s.cu.timed.isSome
  have overflow := bitN_lt s.ev.overflow
  have result : statusResult s < 16 := by
    unfold statusResult
    cases s.cu.lastTimed with
    | none => decide
    | some l => exact resultCode_lt l.2
  rw [readWord_status]
  refine ⟨bits_word (by decide) ?_, bits_word (by decide) ?_, bit_word (by decide) ?_⟩ <;> rw [total_status] <;> omega

theorem statusCode_le {s : State} (timed : ∀ t ∈ s.cu.timed, t.code.toNat ≤ 20)
    (last : s.cu.timed = none → ∀ l ∈ s.cu.lastTimed, l.1.toNat ≤ 20) : statusCode s ≤ 20 := by
  unfold statusCode
  cases running : s.cu.timed with
  | some t => exact timed t running
  | none =>
    cases there : s.cu.lastTimed with
    | none => decide
    | some l => exact last running l there

/-- Figure 10-3: word 03H. -/
theorem host_fields {s : State} (credit : s.ht.outstanding ≤ 16) (room0 : s.ch0.hostQueue.length ≤ 8)
    (room1 : s.ch1.hostQueue.length ≤ 8) :
    bits (s.readWord 0x03) 0 5 = s.ht.outstanding ∧ bits (s.readWord 0x03) 5 4 = s.ch0.hostQueue.length ∧
    bits (s.readWord 0x03) 9 4 = s.ch1.hostQueue.length ∧ (s.readWord 0x03).getLsbD 13 = s.ch0.chainOpen ∧
    (s.readWord 0x03).getLsbD 14 = s.ch1.chainOpen := by
  have open0 := bitN_lt s.ch0.chainOpen
  have open1 := bitN_lt s.ch1.chainOpen
  have sum : total [(s.ht.outstanding, 0), (s.ch0.hostQueue.length, 5), (s.ch1.hostQueue.length, 9),
      (bitN s.ch0.chainOpen, 13), (bitN s.ch1.chainOpen, 14)] = s.ht.outstanding + s.ch0.hostQueue.length * 32 +
        s.ch1.hostQueue.length * 512 + bitN s.ch0.chainOpen * 8192 + bitN s.ch1.chainOpen * 16384 := by
    simp [total, Nat.add_assoc]
  rw [show s.readWord 0x03 = s.hostWord from rfl, State.hostWord]
  refine ⟨bits_word (by decide) ?_, bits_word (by decide) ?_, bits_word (by decide) ?_, bit_word (by decide) ?_,
    bit_word (by decide) ?_⟩ <;> rw [sum] <;> omega

/-- R27: the installed set of word 04H, profile by profile. -/
theorem installedBits_eq (t : ProfileStore) : t.installedBits =
    bitN t.profiles[0].isSome + bitN t.profiles[1].isSome * 2 + bitN t.profiles[2].isSome * 4 +
    bitN t.profiles[3].isSome * 8 + bitN t.profiles[4].isSome * 16 + bitN t.profiles[5].isSome * 32 +
    bitN t.profiles[6].isSome * 64 + bitN t.profiles[7].isSome * 128 := by
  simp [ProfileStore.installedBits, List.finRange_succ]

/-- Figure 10-3: word 04H. -/
theorem queue_fields {s : State} (few : s.ev.queue.length ≤ 64) :
    bits (s.readWord 0x04) 0 7 = s.ev.queue.length ∧
    ∀ n : Fin 8, (s.readWord 0x04).getLsbD (8 + n.val) = (s.profile n).isSome := by
  have sum : total [(s.ev.queue.length, 0), (s.ps.installedBits, 8)] = s.ev.queue.length + s.ps.installedBits * 256 := by
    simp [total]
  have p0 := bitN_lt s.ps.profiles[0].isSome; have p1 := bitN_lt s.ps.profiles[1].isSome
  have p2 := bitN_lt s.ps.profiles[2].isSome; have p3 := bitN_lt s.ps.profiles[3].isSome
  have p4 := bitN_lt s.ps.profiles[4].isSome; have p5 := bitN_lt s.ps.profiles[5].isSome
  have p6 := bitN_lt s.ps.profiles[6].isSome; have p7 := bitN_lt s.ps.profiles[7].isSome
  rw [show s.readWord 0x04 = s.queueWord from rfl, State.queueWord]
  refine ⟨bits_word (by decide) ?_, fun n => bit_word (by omega) ?_⟩ <;> rw [sum, installedBits_eq]
  · omega
  · unfold State.profile
    fin_cases n <;> dsimp only [Fin.getElem_fin] <;> omega

/-- R148, R154: a word of four flags. -/
theorem four_flags (a b c d : Bool) :
    (word [(bitN a, 0), (bitN b, 1), (bitN c, 2), (bitN d, 3)]).getLsbD 0 = a ∧
    (word [(bitN a, 0), (bitN b, 1), (bitN c, 2), (bitN d, 3)]).getLsbD 1 = b ∧
    (word [(bitN a, 0), (bitN b, 1), (bitN c, 2), (bitN d, 3)]).getLsbD 2 = c ∧
    (word [(bitN a, 0), (bitN b, 1), (bitN c, 2), (bitN d, 3)]).getLsbD 3 = d := by
  revert a b c d
  decide

/-- Figure 10-8: the result registers. -/
theorem result_fields (r : ResultReg) :
    bits r.word 0 4 = r.code.code ∧ bits r.word 4 8 = r.sub.toNat ∧ bits r.detail 0 8 = r.source.toNat ∧
    r.detail.getLsbD 12 = r.item.isSome ∧ bits r.detail 8 4 = (r.item.map Item.index).getD 0 := by
  have code := resultCode_lt r.code
  have sub : r.sub.toNat < 256 := r.sub.isLt
  have source : r.source.toNat < 256 := r.source.isLt
  have item : (r.item.map Item.index).getD 0 < 8 := by
    cases r.item with
    | none => decide
    | some i => exact Item.index_lt i
  have named := bitN_lt r.item.isSome
  have sum : total [(r.code.code, 0), (r.sub.toNat, 4)] = r.code.code + r.sub.toNat * 16 := by simp [total]
  have sum' : total [(r.source.toNat, 0), ((r.item.map Item.index).getD 0, 8), (bitN r.item.isSome, 12)] =
      r.source.toNat + (r.item.map Item.index).getD 0 * 256 + bitN r.item.isSome * 4096 := by
    simp [total, Nat.add_assoc]
  refine ⟨bits_word (by decide) ?_, bits_word (by decide) ?_, bits_word (by decide) ?_, bit_word (by decide) ?_,
    bits_word (by decide) ?_⟩
  · rw [sum]
    omega
  · rw [sum]
    omega
  all_goals
    rw [sum']
    omega

/-! ### Attention, views, staging -/

theorem attention_fields (s : State) (n : Fin 4) (p : Fin 24) :
    s.att.sets[n].getLsbD p.val =
      if p.val < 16 then (s.readWord (BitVec.ofNat 7 (0x48 + 2 * n.val))).getLsbD p.val
      else (s.readWord (BitVec.ofNat 7 (0x49 + 2 * n.val))).getLsbD (p.val - 16) := by
  have low : s.readWord (BitVec.ofNat 7 (0x48 + 2 * n.val)) = s.att.sets[n].extractLsb' 0 16 := by fin_cases n <;> rfl
  have high : s.readWord (BitVec.ofNat 7 (0x49 + 2 * n.val)) = (s.att.sets[n].extractLsb' 16 8).setWidth 16 := by
    fin_cases n <;> rfl
  have inside := p.isLt
  rw [low, high]
  split
  · next below => simp [below]
  · next above =>
    have place : 16 + (p.val - 16) = p.val := by omega
    have small : p.val - 16 < 8 := by omega
    have small' : p.val - 16 < 16 := by omega
    simp [place, small, small']

theorem views_empty (s : State) :
    (s.pt.view = none → ∀ n : Fin 16, s.readWord (BitVec.ofNat 7 (0x20 + n.val)) = 0) ∧
    (s.ev.view = none → ∀ n : Fin 8, s.readWord (BitVec.ofNat 7 (0x30 + n.val)) = 0) ∧
    (s.ht.view = none → ∀ n : Fin 4, s.readWord (BitVec.ofNat 7 (0x38 + n.val)) = 0) := by
  refine ⟨fun none n => ?_, fun none n => ?_, fun none n => ?_⟩
  · have shown : s.readWord (BitVec.ofNat 7 (0x20 + n.val)) = viewWord s.pt.view fun v => v.word n.val := by fin_cases n <;> rfl
    rw [shown, none]
    rfl
  · have shown : s.readWord (BitVec.ofNat 7 (0x30 + n.val)) = viewWord s.ev.view fun v => v.word n.val := by fin_cases n <;> rfl
    rw [shown, none]
    rfl
  · have shown : s.readWord (BitVec.ofNat 7 (0x38 + n.val)) = viewWord s.ht.view fun v => v.word n.val := by fin_cases n <;> rfl
    rw [shown, none]
    rfl

/-- R175: an address that Figure 10-2 does not list reads 0. -/
theorem readWord_unlisted (s : State) {a : BitVec 7} (h : unlisted a) : s.readWord a = 0 := by
  unfold unlisted at h
  unfold State.readWord
  dsimp only
  repeat rw [if_neg (by omega)]
  rw [dif_neg (by omega)]

/-! ### Channel group (R121) -/

theorem readWord_channel (s : State) (ch : Chan) (n : Fin 6) :
    s.readWord (BitVec.ofNat 7 ((if ch = .ch0 then 0x50 else 0x58) + n.val)) = (s.chan ch).word n.val := by
  cases ch <;> fin_cases n <;> rfl

theorem grantPort_lt (g : Grant) : g.portShown < 24 := by
  cases g with
  | device k p => exact p.isLt
  | _ => exact Nat.zero_lt_succ 23

theorem grantCode_lt (g : Grant) : g.code < 8 := by
  cases g with
  | device k p => cases k <;> simp [Grant.code]
  | _ => decide

/-- Figure 10-6: word +3. -/
theorem channelStatus_fields {c : Channel} (turn : c.hostTurn ≤ 4) :
    bits c.statusWord 0 3 = c.state.code ∧ c.statusWord.getLsbD 3 = c.enabled ∧ c.statusWord.getLsbD 4 = c.sched.overrun ∧
    bits c.statusWord 13 3 = c.hostTurn ∧ bits c.statusWord 5 3 = c.grant.code ∧ bits c.statusWord 8 5 = c.grant.portShown := by
  have state := chanState_lt c.state
  have enabled := bitN_lt c.enabled
  have overrun := bitN_lt c.sched.overrun
  have kind := grantCode_lt c.grant
  have port := grantPort_lt c.grant
  have sum : total [(c.state.code, 0), (bitN c.enabled, 3), (bitN c.sched.overrun, 4), (c.grant.code, 5),
      (c.grant.portShown, 8), (c.hostTurn, 13)] = c.state.code + bitN c.enabled * 8 + bitN c.sched.overrun * 16 +
        c.grant.code * 32 + c.grant.portShown * 256 + c.hostTurn * 8192 := by
    simp [total, Nat.add_assoc]
  unfold Channel.statusWord
  refine ⟨bits_word (by decide) ?_, bit_word (by decide) ?_, bit_word (by decide) ?_, bits_word (by decide) ?_,
    bits_word (by decide) ?_, bits_word (by decide) ?_⟩ <;> rw [sum] <;> omega

/-! ### Indicator group (R158) -/

/-- Figure 10-6: word 61H. -/
theorem indicator_condition (r : IndicatorRec) :
    bits (r.word 0) 0 4 = r.condition.code ∧ bits (r.word 0) 4 5 = r.port.val ∧ (r.word 0).getLsbD 9 = !r.activeHigh := by
  have condition := conditionCode_lt r.condition
  have port : r.port.val < 24 := r.port.isLt
  have low := bitN_lt (!r.activeHigh)
  have sum : total [(r.condition.code, 0), (r.port.val, 4), (bitN (!r.activeHigh), 9)] =
      r.condition.code + r.port.val * 16 + bitN (!r.activeHigh) * 512 := by
    simp [total, Nat.add_assoc]
  refine ⟨bits_word (by decide) ?_, bits_word (by decide) ?_, bit_word (by decide) ?_⟩ <;> rw [sum] <;> omega

/-- Figure 10-6: word 62H. -/
theorem indicator_states (r : IndicatorRec) :
    bits (r.word 1) 0 2 = r.speed.code ∧ (r.word 1).getLsbD 2 = false ∧ (r.word 1).getLsbD 3 = r.states.probing ∧
    (r.word 1).getLsbD 4 = r.states.active ∧ (r.word 1).getLsbD 5 = r.states.lost ∧
    (r.word 1).getLsbD 6 = r.states.suspended ∧ (r.word 1).getLsbD 7 = r.states.failed ∧
    (r.word 1).getLsbD 8 = decide (r.channel = .ch1) := by
  have speed := speedCode_lt r.speed
  have probing := bitN_lt r.states.probing
  have active := bitN_lt r.states.active
  have lost := bitN_lt r.states.lost
  have suspended := bitN_lt r.states.suspended
  have failed := bitN_lt r.states.failed
  have channel : chanNumber r.channel = bitN (decide (r.channel = .ch1)) := by cases r.channel <;> rfl
  have second := bitN_lt (decide (r.channel = .ch1))
  have sum : total [(r.speed.code, 0), (r.states.bits, 2), (chanNumber r.channel, 8)] =
      r.speed.code + bitN r.states.probing * 8 + bitN r.states.active * 16 + bitN r.states.lost * 32 +
        bitN r.states.suspended * 64 + bitN r.states.failed * 128 + bitN (decide (r.channel = .ch1)) * 256 := by
    rw [← channel]
    simp only [total, StateSet.bits]
    omega
  have dark : bitN false = 0 := rfl
  refine ⟨bits_word (by decide) ?_, bit_word (by decide) ?_, bit_word (by decide) ?_, bit_word (by decide) ?_,
    bit_word (by decide) ?_, bit_word (by decide) ?_, bit_word (by decide) ?_, bit_word (by decide) ?_⟩ <;> rw [sum] <;> omega

/-- Figure 10-6: word 63H. -/
theorem indicator_patterns (r : IndicatorRec) :
    bits (r.word 2) 0 3 = r.whenTrue.kind.code ∧ bits (r.word 2) 3 2 = r.whenTrue.slot.val ∧
    bits (r.word 2) 8 3 = r.whenFalse.kind.code ∧ bits (r.word 2) 11 2 = r.whenFalse.slot.val := by
  have kind := patternCode_lt r.whenTrue.kind
  have kind' := patternCode_lt r.whenFalse.kind
  have slot : r.whenTrue.slot.val < 4 := r.whenTrue.slot.isLt
  have slot' : r.whenFalse.slot.val < 4 := r.whenFalse.slot.isLt
  have sum : total [(r.whenTrue.kind.code, 0), (r.whenTrue.slot.val, 3), (r.whenFalse.kind.code, 8),
      (r.whenFalse.slot.val, 11)] = r.whenTrue.kind.code + r.whenTrue.slot.val * 8 + r.whenFalse.kind.code * 256 +
        r.whenFalse.slot.val * 2048 := by
    simp [total, Nat.add_assoc]
  refine ⟨bits_word (by decide) ?_, bits_word (by decide) ?_, bits_word (by decide) ?_, bits_word (by decide) ?_⟩ <;>
    rw [sum] <;> omega

/-- Figure 10-6: word 64H. -/
theorem override_fields (o : Override) :
    (overrideWord (some o)).getLsbD 0 = true ∧ bits (overrideWord (some o)) 1 3 = o.pattern.kind.code ∧
    bits (overrideWord (some o)) 4 2 = o.pattern.slot.val ∧ (overrideWord (some o)).getLsbD 6 = o.timer.isSome := by
  have kind := patternCode_lt o.pattern.kind
  have slot : o.pattern.slot.val < 4 := o.pattern.slot.isLt
  have timer := bitN_lt o.timer.isSome
  have sum : total [(1, 0), (o.pattern.kind.code, 1), (o.pattern.slot.val, 4), (bitN o.timer.isSome, 6)] =
      1 + o.pattern.kind.code * 2 + o.pattern.slot.val * 16 + bitN o.timer.isSome * 64 := by
    simp [total, Nat.add_assoc]
  refine ⟨bit_word (by decide) ?_, bits_word (by decide) ?_, bits_word (by decide) ?_, bit_word (by decide) ?_⟩
  all_goals rw [sum]
  · rw [bitN_true]
    omega
  all_goals omega

/-- R158: word 65H. -/
theorem override_seconds {o : Override} {n : Nat} (timer : o.timer = some n) (range : n ≤ 65535000) :
    (overrideSeconds (some o)).toNat * 1000 < n + 1000 ∧ n ≤ (overrideSeconds (some o)).toNat * 1000 := by
  have seconds : (overrideSeconds (some o)).toNat = (n + 999) / 1000 % 65536 := by
    simp [overrideSeconds, timer]
  rw [seconds]
  omega

theorem slot_word {half : Nat} (range : half ≤ 255) (flag : Bool) :
    bits (word [(half, 0), (bitN flag, 15)]) 0 8 = half ∧ (word [(half, 0), (bitN flag, 15)]).getLsbD 15 = flag := by
  have small := bitN_lt flag
  have sum : total [(half, 0), (bitN flag, 15)] = half + bitN flag * 32768 := by simp [total]
  refine ⟨bits_word (by decide) ?_, bit_word (by decide) ?_⟩ <;> rw [sum] <;> omega

theorem readWord_slot (s : State) (n : Fin 4) (k : Fin 2) {a : BitVec 7} (there : a.toNat = 0x68 + 2 * n.val + k.val) :
    s.readWord a = s.ie.slots[n].word k.val := by
  have slot : (a.toNat - 0x68) / 2 % 4 = n.val := by omega
  have word : (a.toNat - 0x68) % 2 = k.val := by omega
  unfold State.readWord
  dsimp only
  repeat rw [if_neg (by omega)]
  rw [dif_neg (by omega), if_pos (by omega), word]
  simp only [slot]
  rfl

/-- Figure 10-6: the words of a rate slot. -/
theorem slot_fields (s : State) (n : Fin 4) (half : s.ie.slots[n].half ≤ 255) (pending : ∀ h ∈ s.ie.slots[n].pending, h ≤ 255) :
    bits (s.readWord (BitVec.ofNat 7 (0x68 + 2 * n.val))) 0 8 = s.ie.slots[n].half ∧
    (s.readWord (BitVec.ofNat 7 (0x68 + 2 * n.val))).getLsbD 15 = s.ie.slots[n].phaseOn ∧
    bits (s.readWord (BitVec.ofNat 7 (0x69 + 2 * n.val))) 0 8 = s.ie.slots[n].pending.getD 0 ∧
    (s.readWord (BitVec.ofNat 7 (0x69 + 2 * n.val))).getLsbD 15 = s.ie.slots[n].pending.isSome := by
  have first : s.readWord (BitVec.ofNat 7 (0x68 + 2 * n.val)) =
      word [(s.ie.slots[n].half, 0), (bitN s.ie.slots[n].phaseOn, 15)] :=
    readWord_slot s n 0 (by simp; omega)
  have second : s.readWord (BitVec.ofNat 7 (0x69 + 2 * n.val)) =
      word [(s.ie.slots[n].pending.getD 0, 0), (bitN s.ie.slots[n].pending.isSome, 15)] :=
    readWord_slot s n 1 (by simp; omega)
  have pending' : s.ie.slots[n].pending.getD 0 ≤ 255 := by
    cases there : s.ie.slots[n].pending with
    | none => exact Nat.zero_le _
    | some h => exact pending h there
  obtain ⟨a, b⟩ := slot_word half s.ie.slots[n].phaseOn
  obtain ⟨c, d⟩ := slot_word pending' s.ie.slots[n].pending.isSome
  rw [first, second]
  exact ⟨a, b, c, d⟩

end Sys2Proof.Laws
end

section
/-! PROOFS. The pins of the part: the management channels, the indicator chain and the SPI port edge by edge (R107, R111,
R171, R172, R174 to R176). -/
namespace Sys2Proof.Laws

open Sys2Proof.Machine Sys2Proof.Safety

/-! ### Waves of two halves -/

/-- The two halves of each bit time, in order. -/
theorem getElem?_halves {α β : Type} (f g : α → β) (l : List α) (n : Nat) :
    (l.flatMap fun d => [f d, g d])[2 * n]? = l[n]?.map f ∧ (l.flatMap fun d => [f d, g d])[2 * n + 1]? = l[n]?.map g := by
  induction l generalizing n with
  | nil => simp
  | cons d l ih =>
    cases n with
    | zero => simp
    | succ n =>
      obtain ⟨low, high⟩ := ih n
      exact ⟨by simpa [Nat.mul_succ] using low, by simpa [Nat.mul_succ] using high⟩

theorem length_halves {α β : Type} (f g : α → β) (l : List α) : (l.flatMap fun d => [f d, g d]).length = 2 * l.length := by
  simp [List.length_flatMap, Nat.mul_comm]

/-! ### MDC and MDIO (R107, R111) -/

theorem busPins_rest {s : State} {ch : Chan} (rest : s.rstnLow = true ∨ started (s.chan ch) = false) (k : Nat) :
    s.busPins ch k = ⟨false, .released⟩ := by
  unfold State.busPins
  obtain low | quiet := rest
  · rw [if_pos low]
    rfl
  · have off : (s.chan ch).onLines = none := by
      unfold Channel.onLines
      unfold started at quiet
      cases flying : (s.chan ch).frame with
      | none => rfl
      | some f => exact if_neg (by simpa [flying] using quiet)
    rw [off]
    exact ite_self _

theorem busPins_of_started {s : State} {ch : Chan} {f : FlyingFrame} (running : s.rstnLow = false)
    (flying : (s.chan ch).frame = some f) (rate : f.rate.isSome = true) (k : Nat) :
    s.busPins ch k = (busWave (f.frame.wire f.preamble))[k]?.getD .rest := by
  have lines : (s.chan ch).onLines = some (f.frame.wire f.preamble) := by simp [Channel.onLines, flying, rate]
  rw [State.busPins, running, if_neg nofun, lines]

/-- R107: MDC is low and then high in each bit time, with MDIO at the bit. -/
theorem busPins_frame {s : State} {ch : Chan} {f : FlyingFrame} (running : s.rstnLow = false)
    (flying : (s.chan ch).frame = some f) (rate : f.rate.isSome = true) :
    (∀ n d, (f.frame.wire f.preamble)[n]? = some d →
      s.busPins ch (2 * n) = ⟨false, d⟩ ∧ s.busPins ch (2 * n + 1) = ⟨true, d⟩) ∧
    ∀ k, 2 * (f.frame.wire f.preamble).length ≤ k → s.busPins ch k = ⟨false, .released⟩ := by
  have wave := busPins_of_started running flying rate
  refine ⟨fun n d there => ?_, fun k past => ?_⟩
  · obtain ⟨low, high⟩ := getElem?_halves (fun d => (⟨false, d⟩ : BusPins)) (fun d => ⟨true, d⟩) (f.frame.wire f.preamble) n
    rw [wave, wave, busWave, low, high, there]
    exact ⟨rfl, rfl⟩
  · rw [wave, List.getElem?_eq_none]
    · rfl
    · rwa [busWave, length_halves]

/-- R111: what the part samples of a frame. -/
theorem sampled_fields (f : Frame) (pre : Bool) (line : Nat → Bool) :
    (f.op ≠ .read → f.sampled pre line = none) ∧
    (f.op = .read → ∃ w, f.sampled pre line = some (line ((if pre = true then 32 else 0) + 15), w) ∧
      ∀ k : Fin 16, w.getLsbD (15 - k.val) = line ((if pre = true then 32 else 0) + 16 + k.val)) := by
  refine ⟨fun write => ?_, fun read => ?_⟩
  · cases op : f.op with
    | read => exact absurd op write
    | write w => simp only [Frame.sampled, op]
  · generalize start : (if pre = true then 32 else 0) = n
    have taken : f.sampled pre line = some (line (n + 15),
        BitVec.ofNat 16 (numberOf ((List.range 16).map fun k => line (n + 16 + k)))) := by
      simp only [Frame.sampled, read, start]
      rfl
    refine ⟨_, taken, fun k => ?_⟩
    have same := wordBits_of_word (l := (List.range 16).map fun k => line (n + 16 + k)) (by simp)
    have there := congrArg (fun l : List Bool => l[k.val]?) same
    simpa [wordBits] using there

/-! ### The indicator chain (R171, R172) -/

theorem chainPins_of_shifted {s : State} (running : s.rstnLow = false) (shifted : s.ie.shifted ≠ []) (k : Nat) :
    s.chainPins k = (chainWave s.ie.shifted)[k]?.getD ⟨false, false, false⟩ := by
  have there : s.ie.shifted.isEmpty = false := by simpa using shifted
  rw [State.chainPins, running, there]
  rfl

theorem chainPins_rest {s : State} {k : Nat} (rest : s.rstnLow = true ∨ s.ie.shifted = [] ∨ 2 * s.ie.shifted.length + 2 ≤ k) :
    s.chainPins k = ⟨false, false, false⟩ := by
  by_cases low : s.rstnLow = true
  · simp [State.chainPins, low, ChainPins.rest]
  by_cases empty : s.ie.shifted = []
  · simp [State.chainPins, empty, ChainPins.rest]
  · have past : 2 * s.ie.shifted.length + 2 ≤ k := (rest.resolve_left low).resolve_left empty
    rw [chainPins_of_shifted (by simpa using low) empty, chainWave, List.getElem?_append_right]
    · rw [length_halves, chainBits, List.length_reverse]
      obtain ⟨n, rfl⟩ : ∃ n, k = 2 * s.ie.shifted.length + 2 + n := ⟨k - (2 * s.ie.shifted.length + 2), by omega⟩
      rw [show 2 * s.ie.shifted.length + 2 + n - 2 * s.ie.shifted.length = n + 2 by omega]
      cases n <;> rfl
    · rw [length_halves, chainBits, List.length_reverse]
      omega

/-- R171: LSCK is low and then high with LSDO at the bit, the highest index first; then the latch pulse. -/
theorem chainPins_shift {s : State} (running : s.rstnLow = false) :
    (∀ n b, n < s.ie.shifted.length → s.ie.shifted[s.ie.shifted.length - 1 - n]? = some b →
      s.chainPins (2 * n) = ⟨false, b, false⟩ ∧ s.chainPins (2 * n + 1) = ⟨true, b, false⟩) ∧
    ∀ k b, s.ie.shifted.head? = some b → 2 * s.ie.shifted.length ≤ k → k < 2 * s.ie.shifted.length + 2 →
      s.chainPins k = ⟨false, b, true⟩ := by
  have length : ((chainBits s.ie.shifted).flatMap fun b => [(⟨false, b, false⟩ : ChainPins), ⟨true, b, false⟩]).length =
      2 * s.ie.shifted.length := by
    rw [length_halves, chainBits, List.length_reverse]
  refine ⟨fun n b inside there => ?_, fun k b first above below => ?_⟩
  · have some_there : s.ie.shifted ≠ [] := List.ne_nil_of_length_pos (Nat.lt_of_le_of_lt (Nat.zero_le n) inside)
    have pins := chainPins_of_shifted running some_there
    obtain ⟨low, high⟩ := getElem?_halves (fun b => (⟨false, b, false⟩ : ChainPins)) (fun b => ⟨true, b, false⟩)
      (chainBits s.ie.shifted) n
    have sent : (chainBits s.ie.shifted)[n]? = some b := by rw [chainBits, List.getElem?_reverse inside, there]
    rw [pins, pins, chainWave, List.getElem?_append_left (by rw [length]; omega),
      List.getElem?_append_left (by rw [length]; omega), low, high, sent]
    exact ⟨rfl, rfl⟩
  · have some_there : s.ie.shifted ≠ [] := by
      rintro empty
      simp [empty] at first
    have last : (chainBits s.ie.shifted).getLastD false = b := by
      rw [chainBits, List.getLastD_eq_getLast?, List.getLast?_reverse, first]
      rfl
    rw [chainPins_of_shifted running some_there, chainWave, List.getElem?_append_right (by rw [length]; exact above), length, last]
    obtain same | same : k - 2 * s.ie.shifted.length = 0 ∨ k - 2 * s.ie.shifted.length = 1 := by omega
    all_goals
      rw [same]
      rfl

/-! ### A written word and RSTN -/

theorem rstnLow_command (s : State) (hi code : BitVec 8) : (s.command hi code (commandOwner code)).rstnLow = s.rstnLow := by
  unfold State.command
  dsimp only
  split
  · rfl
  · exact (answers_commandOwner code _).rstnLow

theorem rstnLow_checkedWrite {a : BitVec 7} {d : Delivery} (checks : ∀ s, Checks s (d s)) (s : State) :
    (s.checkedWrite a d).rstnLow = s.rstnLow := by
  unfold State.checkedWrite
  dsimp only
  split
  · rfl
  · exact (checks s).kept.rstnLow

theorem rstnLow_writeChannelWord (s : State) (ch : Chan) (n : Nat) (v : Word) :
    (s.writeChannelWord ch n v).rstnLow = s.rstnLow := by
  unfold State.writeChannelWord
  split
  · exact rstnLow_checkedWrite (checks_takeDivider ch v) s
  · exact rstnLow_checkedWrite (checks_takePassInterval ch v) s
  · exact rstnLow_checkedWrite (checks_takeHostWeight ch v) s
  · unfold State.takeChannelStatus
    split
    · exact State.modSched_rstnLow ..
    · rfl
  · rfl

theorem rstnLow_ite {c : Prop} [Decidable c] {x y s : State} (first : x.rstnLow = s.rstnLow) (second : y.rstnLow = s.rstnLow) :
    (if c then x else y).rstnLow = s.rstnLow := by
  split
  · exact first
  · exact second

theorem rstnLow_dite {c : Prop} [Decidable c] {x : c → State} {y s : State} (first : ∀ h, (x h).rstnLow = s.rstnLow)
    (second : y.rstnLow = s.rstnLow) : (if h : c then x h else y).rstnLow = s.rstnLow := by
  split
  · exact first _
  · exact second

/-- R176: no word written changes RSTN. -/
theorem rstnLow_writeWord (s : State) (a : BitVec 7) (v : Word) : (s.writeWord a v).rstnLow = s.rstnLow := by
  unfold State.writeWord
  refine rstnLow_ite rfl (rstnLow_ite rfl ?_)
  refine rstnLow_ite (rstnLow_checkedWrite (checks_takeThreshold v) s) ?_
  refine rstnLow_ite (rstnLow_checkedWrite (d := takeHoldoff v) (fun _ => checks_of ⟨rfl, rfl⟩ (by decide)) s) ?_
  refine rstnLow_dite (fun _ => rfl) (rstnLow_ite (rstnLow_command ..) ?_)
  refine rstnLow_ite (rstnLow_checkedWrite (checks_takeMissLimit v) s) ?_
  refine rstnLow_ite (rstnLow_checkedWrite (checks_takeAttemptLimit v) s) ?_
  refine rstnLow_ite (rstnLow_checkedWrite (checks_takeRetryInterval v) s) ?_
  refine rstnLow_ite (rstnLow_checkedWrite (checks_takeLostInterval v) s) ?_
  refine rstnLow_ite rfl (rstnLow_dite (fun _ => rfl) (rstnLow_dite (fun _ => rfl) ?_))
  refine rstnLow_ite (rstnLow_writeChannelWord ..) (rstnLow_ite (rstnLow_writeChannelWord ..) ?_)
  refine rstnLow_ite (rstnLow_checkedWrite (checks_takeIndicatorIndex v) s) ?_
  refine rstnLow_dite (fun _ => rstnLow_checkedWrite (checks_takeIndicatorRecord _ v) s) ?_
  refine rstnLow_ite (rstnLow_checkedWrite (checks_takeChainLength v) s) ?_
  exact rstnLow_ite (rstnLow_checkedWrite (checks_takeFlashWidth v) s) rfl

/-! ### The SPI port, edge by edge (R174 to R176) -/

/-- The two edges of SCLK of each bit on SDI. -/
def clocked (m0 m1 : Bool) (l : List Bool) : List SpiEdge := l.flatMap fun b => [.rise b m0 m1, .fall]

/-- R174, R175, R119: a word of a transaction written. -/
def wordWritten (m0 m1 : Bool) (x : State) (w : BitVec 7 × Word) : State :=
  { (State.noteLines { x with spi := .writing w.1 ((wordBits w.2).take 15) } m0 m1).writeWord w.1 w.2 with spi := .idle }

/-- The bits of a transaction taken, and its end. -/
def transacted (m0 m1 : Bool) (x : State) (l : List Bool) : State := ((clocked m0 m1 l).foldl State.spiEdge x).spiEdge .deselect

theorem transacted_nil {x : State} (running : x.rstnLow = false) (m0 m1 : Bool) :
    transacted m0 m1 x [] = { x with spi := .idle } := by
  simp [transacted, clocked, State.spiEdge, running]

theorem transacted_cons (m0 m1 : Bool) (x : State) (b : Bool) (l : List Bool) :
    transacted m0 m1 x (b :: l) = transacted m0 m1 ((x.spiEdge (.rise b m0 m1)).spiEdge .fall) l := rfl

theorem spiWords_of_short {l : List Bool} (short : l.length < 16) (n : Nat) : spiWords n l = [] := by
  cases n with
  | zero => rfl
  | succ n => simp [spiWords, short]

/-- R174, R175: the rest of a write transaction. -/
theorem transacted_writing (m0 m1 : Bool) (l : List Bool) : ∀ {x : State} {a : BitVec 7} {p : List Bool} {n : Nat},
    x.rstnLow = false → x.spi = .writing a p → p.length < 16 → (p ++ l).length ≤ n →
    transacted m0 m1 x l = (burst a (spiWords n (p ++ l))).foldl (wordWritten m0 m1) { x with spi := .idle } := by
  induction l with
  | nil =>
    intro x a p n running _ short _
    rw [transacted_nil running, List.append_nil, spiWords_of_short short]
    rfl
  | cons b l ih =>
    intro x a p n running spi short enough
    rw [transacted_cons]
    by_cases more : p.length < 15
    · have after : (x.spiEdge (.rise b m0 m1)).spiEdge .fall = { x with spi := .writing a (p ++ [b]) } := by
        simp [State.spiEdge, running, State.spiRise, State.spiFall, spi, more]
      rw [after, ih (x := { x with spi := .writing a (p ++ [b]) }) (a := a) (p := p ++ [b]) (n := n) running rfl
        (by simp only [List.length_append, List.length_singleton]; omega) (by simpa using enough)]
      simp
    · have whole : (p ++ [b]).length = 16 := by
        rw [List.length_append, List.length_singleton]
        omega
      have bits := wordBits_of_word whole
      generalize word : BitVec.ofNat 16 (numberOf (p ++ [b])) = w at bits
      have after : (x.spiEdge (.rise b m0 m1)).spiEdge .fall =
          { (x.noteLines m0 m1).writeWord a w with spi := .writing (a + 1) [] } := by
        have still : ((x.noteLines m0 m1).writeWord a w).rstnLow = false := (rstnLow_writeWord ..).trans running
        have rise : x.spiEdge (.rise b m0 m1) = { (x.noteLines m0 m1).writeWord a w with spi := .writing (a + 1) [] } := by
          rw [State.spiEdge, running, if_neg nofun]
          simp only [State.spiRise, spi, more, if_false, word]
        rw [rise]
        simp [State.spiEdge, State.spiFall, still]
      obtain ⟨n, rfl⟩ : ∃ k, n = k + 1 := ⟨n - 1, by simp only [List.length_append, List.length_cons] at enough; omega⟩
      have rest : spiWords (n + 1) (p ++ b :: l) = w :: spiWords n l := by
        have split : p ++ b :: l = (p ++ [b]) ++ l := by simp
        rw [split, spiWords, if_pos (by rw [List.length_append, whole]; omega), List.take_left' whole,
          List.drop_left' whole, word]
      have noted : wordWritten m0 m1 { x with spi := .idle } (a, w) = { (x.noteLines m0 m1).writeWord a w with spi := .idle } := by
        have partial_word : (wordBits w).take 15 = p := by
          rw [bits]
          exact List.take_left' (by rw [List.length_append, List.length_singleton] at whole; omega)
        have same : ({ x with spi := .writing a p } : State) = x := by rw [← spi]
        simp only [wordWritten, partial_word, same]
      rw [after, ih (x := { (x.noteLines m0 m1).writeWord a w with spi := .writing (a + 1) [] }) (a := a + 1) (p := []) (n := n) ((rstnLow_writeWord ..).trans running) rfl (by decide)
        (by simp only [List.length_append, List.length_cons] at enough; simp; omega), List.nil_append, rest, burst,
        List.foldl_cons, noted]

/-- R174: nothing but the port itself changes in a read transaction. -/
theorem transacted_reading (m0 m1 : Bool) (l : List Bool) : ∀ {x : State} {a : BitVec 7} {b : Bool} {left : List Bool},
    x.rstnLow = false → x.spi = .reading a b left → transacted m0 m1 x l = { x with spi := .idle } := by
  induction l with
  | nil => exact fun running _ => transacted_nil running ..
  | cons d l ih =>
    intro x a b left running spi
    rw [transacted_cons]
    have rise : x.spiEdge (.rise d m0 m1) = x := by simp [State.spiEdge, running, State.spiRise, spi]
    have fall : ∃ a' b' left', x.spiEdge .fall = { x with spi := .reading a' b' left' } := by
      cases left with
      | cons b' left' => exact ⟨a, b', left', by simp [State.spiEdge, running, State.spiFall, spi]⟩
      | nil =>
        refine ⟨a + 1, (x.readWord a).getLsbD 15, (wordBits (x.readWord a)).drop 1, ?_⟩
        simp [State.spiEdge, running, State.spiFall, spi, wordBits, List.range_succ_eq_map]
    obtain ⟨a', b', left', fall⟩ := fall
    rw [rise, fall]
    exact ih (x := { x with spi := .reading a' b' left' }) (a := a') (b := b') (left := left') running rfl

/-- Figure 10-1: the command byte is the first eight bits. -/
theorem spiCommand_append {p : List Bool} (whole : p.length = 8) (l : List Bool) : spiCommand (p ++ l) = spiCommand p := by
  rw [spiCommand, spiCommand, if_pos (by rw [List.length_append]; omega), if_pos (by omega), List.take_left' whole,
    List.take_of_length_le (by omega)]
  cases p with
  | nil => simp at whole
  | cons r p => rfl

/-- R174, R175: a transaction from its command byte on. -/
theorem transacted_command (m0 m1 : Bool) (l : List Bool) : ∀ {x : State} {p : List Bool},
    x.rstnLow = false → x.spi = .command p → p.length < 8 →
    transacted m0 m1 x l = (spiWrites (p ++ l)).foldl (wordWritten m0 m1) { x with spi := .idle } := by
  induction l with
  | nil =>
    intro x p running _ short
    have incomplete : spiWrites (p ++ []) = [] := by simp [spiWrites, spiCommand, Nat.not_le.mpr short]
    rw [transacted_nil running, incomplete]
    rfl
  | cons b l ih =>
    intro x p running spi short
    rw [transacted_cons]
    have rise : x.spiEdge (.rise b m0 m1) = { x with spi := .afterByte (p ++ [b]) } := by
      simp [State.spiEdge, running, State.spiRise, spi]
    have joined : p ++ b :: l = (p ++ [b]) ++ l := by simp
    rw [rise, joined]
    by_cases more : p.length < 7
    · have after : SpiPort.afterByte (p ++ [b]) = .command (p ++ [b]) := by
        simp [SpiPort.afterByte, spiCommand, Nat.not_le.mpr more]
      have fall : ({ x with spi := .afterByte (p ++ [b]) } : State).spiEdge .fall = { x with spi := .command (p ++ [b]) } := by
        rw [after]
        simp [State.spiEdge, running, State.spiFall]
      rw [fall, ih (x := { x with spi := .command (p ++ [b]) }) (p := p ++ [b]) running rfl
        (by simp only [List.length_append, List.length_singleton]; omega)]
    · have whole : (p ++ [b]).length = 8 := by
        rw [List.length_append, List.length_singleton]
        omega
      obtain ⟨r, a, command⟩ : ∃ r a, spiCommand (p ++ [b]) = some (r, a) :=
        ⟨_, _, if_pos (Nat.le_of_eq whole.symm)⟩
      have writes : spiWrites ((p ++ [b]) ++ l) = if r then [] else burst a (spiWords (8 + l.length) l) := by
        rw [spiWrites, spiCommand_append whole, command, List.drop_left' whole, List.length_append, whole]
        cases r <;> rfl
      cases r with
      | true =>
        have after : SpiPort.afterByte (p ++ [b]) = .reading a false [] := by simp [SpiPort.afterByte, command]
        have rest := transacted_reading m0 m1 (b :: l) (x := { x with spi := .reading a false [] }) running rfl
        have again : ({ x with spi := .reading a false [] } : State).spiEdge (.rise b m0 m1) = { x with spi := .reading a false [] } := by
          simp [State.spiEdge, running, State.spiRise]
        rw [transacted_cons, again] at rest
        rw [after, rest, writes]
        rfl
      | false =>
        have after : SpiPort.afterByte (p ++ [b]) = .writing a [] := by simp [SpiPort.afterByte, command]
        have fall : ({ x with spi := .writing a [] } : State).spiEdge .fall = { x with spi := .writing a [] } := by
          simp [State.spiEdge, running, State.spiFall]
        rw [after, fall, transacted_writing m0 m1 l (x := { x with spi := .writing a [] }) (a := a) (p := []) (n := 8 + l.length) running rfl (by decide)
          (by simp), writes]
        rfl

/-- R174, R175: a transaction taken edge by edge writes its words in order. -/
theorem takeSpi_eq {s : State} (running : s.rstnLow = false) (bits : List Bool) (m0 m1 : Bool) :
    s.takeSpi bits m0 m1 = (spiWrites bits).foldl (wordWritten m0 m1) { s with spi := .idle } := by
  have selected : s.spiEdge .select = { s with spi := .command [] } := by simp [State.spiEdge, running]
  have edges : s.takeSpi bits m0 m1 = transacted m0 m1 (s.spiEdge .select) bits := by
    simp [State.takeSpi, spiTransaction, transacted, clocked, List.foldl_append]
  rw [edges, selected, transacted_command m0 m1 bits (x := { s with spi := .command [] }) (p := []) running rfl (by decide)]
  rfl

end Sys2Proof.Laws
end

section
/-! PROOFS. What the window and the pins show of the state: the words by their fields, then the pins. -/
namespace Sys2Proof.Laws

open Sys2Proof.Machine Sys2Proof.Safety

/-- R179, Figure 10-3: word 02H by the timed command in progress and the last one. -/
theorem status_shown (s : State) :
    (∀ t, s.cu.timed = some t → t.code.toNat ≤ 20 →
      (s.readWord 0x02).getLsbD 0 = true ∧ bits (s.readWord 0x02) 1 5 = t.code.toNat) ∧
    (s.cu.timed = none → (s.readWord 0x02).getLsbD 0 = false) ∧
    (∀ code r, s.cu.lastTimed = some (code, r) → code.toNat ≤ 20 → (∀ t ∈ s.cu.timed, t.code.toNat ≤ 20) →
      (s.cu.timed = none → bits (s.readWord 0x02) 1 5 = code.toNat) ∧
      ∀ x ∈ resultCodes, r = x.1 → bits (s.readWord 0x02) 6 4 = x.2) ∧
    (s.cu.lastTimed = none → (∀ t ∈ s.cu.timed, t.code.toNat ≤ 20) →
      (s.cu.timed = none → bits (s.readWord 0x02) 1 5 = 0) ∧ bits (s.readWord 0x02) 6 4 = 0) ∧
    ((∀ t ∈ s.cu.timed, t.code.toNat ≤ 20) → (∀ l ∈ s.cu.lastTimed, l.1.toNat ≤ 20) →
      (s.readWord 0x02).getLsbD 10 = s.ev.overflow) := by
  have busy := status_busy s
  refine ⟨fun t timed known => ?_, fun idle => ?_, fun code r last known timed => ?_, fun last timed => ?_,
    fun timed last => (status_fields (statusCode_le timed fun _ => last)).2.2⟩
  · have code : statusCode s = t.code.toNat := by simp only [statusCode, timed]
    obtain ⟨shown, -⟩ := status_fields (s := s) (by rw [code]; exact known)
    rw [busy, shown, code, timed]
    exact ⟨rfl, rfl⟩
  · rw [busy, idle]
    rfl
  · have small : statusCode s ≤ 20 := statusCode_le timed fun _ l there => by
      obtain rfl : (code, r) = l := Option.some.inj (last.symm.trans there)
      exact known
    obtain ⟨shown, result, -⟩ := status_fields small
    refine ⟨fun idle => ?_, fun x listed same => ?_⟩
    · rw [shown]
      simp only [statusCode, idle, last, Option.map_some, Option.getD_some]
    · rw [result, ← code_of_resultCodes listed, ← same]
      simp only [statusResult, last, Option.map_some, Option.getD_some]
  · have small : statusCode s ≤ 20 := statusCode_le timed fun _ l there => absurd (last.symm.trans there) nofun
    obtain ⟨shown, result, -⟩ := status_fields small
    refine ⟨fun idle => ?_, ?_⟩
    · rw [shown]
      simp only [statusCode, idle, last, Option.map_none, Option.getD_none]
    · rw [result]
      simp only [statusResult, last, Option.map_none, Option.getD_none]

/-- R187, Figure 10-8: words 13H and 14H. -/
theorem result_shown (s : State) :
    (∀ x ∈ resultCodes, s.cu.result.code = x.1 → bits (s.readWord 0x13) 0 4 = x.2) ∧
    bits (s.readWord 0x13) 4 8 = s.cu.result.sub.toNat ∧ bits (s.readWord 0x14) 0 8 = s.cu.result.source.toNat ∧
    (s.readWord 0x14).getLsbD 12 = s.cu.result.item.isSome ∧
    (∀ i, s.cu.result.item = some i → bits (s.readWord 0x14) 8 4 = i.index) ∧
    (s.cu.result.item = none → bits (s.readWord 0x14) 8 4 = 0) := by
  obtain ⟨code, sub, source, named, item⟩ := result_fields s.cu.result
  refine ⟨fun x listed same => ?_, sub, source, named, fun i there => ?_, fun none => ?_⟩
  · rw [← code_of_resultCodes listed, ← same]
    exact code
  · refine Eq.trans item ?_
    rw [there]
    rfl
  · refine Eq.trans item ?_
    rw [none]
    rfl

theorem readWord_indicator (s : State) (n : Fin 3) {a : BitVec 7} (there : a.toNat = 0x61 + n.val) :
    s.readWord a = s.ie.records[s.ie.index].word n.val := by
  have word : a.toNat - 0x61 = n.val := by omega
  unfold State.readWord
  dsimp only
  repeat rw [if_neg (by omega)]
  rw [dif_neg (by omega), if_pos (by omega), word]

theorem readWord_override (s : State) :
    s.readWord 0x64 = overrideWord s.ie.records[s.ie.index].override ∧
    s.readWord 0x65 = overrideSeconds s.ie.records[s.ie.index].override := ⟨rfl, rfl⟩

/-- R158, Figure 10-6: words 61H to 64H of the indexed indicator record. -/
theorem indicator_shown (s : State) :
    let r := s.ie.records[s.ie.index]
    (∀ x ∈ conditionCodes, r.condition = x.1 → bits (s.readWord 0x61) 0 4 = x.2) ∧
    bits (s.readWord 0x61) 4 5 = r.port.val ∧ (s.readWord 0x61).getLsbD 9 = !r.activeHigh ∧
    (∀ x ∈ speedCodes, r.speed = x.1 → bits (s.readWord 0x62) 0 2 = x.2) ∧ (s.readWord 0x62).getLsbD 2 = false ∧
    (s.readWord 0x62).getLsbD 3 = r.states.probing ∧ (s.readWord 0x62).getLsbD 4 = r.states.active ∧
    (s.readWord 0x62).getLsbD 5 = r.states.lost ∧ (s.readWord 0x62).getLsbD 6 = r.states.suspended ∧
    (s.readWord 0x62).getLsbD 7 = r.states.failed ∧ (s.readWord 0x62).getLsbD 8 = decide (r.channel = .ch1) ∧
    (∀ x ∈ patternCodes, (r.whenTrue.kind = x.1 → bits (s.readWord 0x63) 0 3 = x.2) ∧
      (r.whenFalse.kind = x.1 → bits (s.readWord 0x63) 8 3 = x.2) ∧
      ∀ o, r.override = some o → o.pattern.kind = x.1 → bits (s.readWord 0x64) 1 3 = x.2) ∧
    bits (s.readWord 0x63) 3 2 = r.whenTrue.slot.val ∧ bits (s.readWord 0x63) 11 2 = r.whenFalse.slot.val := by
  intro r
  obtain ⟨condition, port, polarity⟩ := indicator_condition r
  obtain ⟨speed, unbound, probing, active, lost, suspended, failed, channel⟩ := indicator_states r
  obtain ⟨whenTrue, slot, whenFalse, slot'⟩ := indicator_patterns r
  have w61 : s.readWord 0x61 = r.word 0 := readWord_indicator s 0 rfl
  have w62 : s.readWord 0x62 = r.word 1 := readWord_indicator s 1 rfl
  have w63 : s.readWord 0x63 = r.word 2 := readWord_indicator s 2 rfl
  rw [w61, w62, w63]
  refine ⟨fun x listed same => ?_, port, polarity, fun x listed same => ?_, unbound, probing, active, lost, suspended, failed,
    channel, fun x listed => ⟨fun same => ?_, fun same => ?_, fun o there same => ?_⟩, slot, slot'⟩
  · rw [← code_of_conditionCodes listed, ← same]
    exact condition
  · rw [← code_of_speedCodes listed, ← same]
    exact speed
  · rw [← code_of_patternCodes listed, ← same]
    exact whenTrue
  · rw [← code_of_patternCodes listed, ← same]
    exact whenFalse
  · rw [← code_of_patternCodes listed, ← same, (readWord_override s).1,
      show s.ie.records[s.ie.index].override = some o from there]
    exact (override_fields o).2.1

/-- R121, Figure 10-6: the words of a channel's group. -/
theorem channel_shown (s : State) (ch : Chan) :
    let c := s.chan ch
    let at' := fun (n : Nat) => s.readWord (BitVec.ofNat 7 ((if ch = .ch0 then 0x50 else 0x58) + n))
    let w := at' 3
    at' 0 = BitVec.ofNat 16 c.divider ∧ at' 1 = BitVec.ofNat 16 c.sched.passInterval ∧
    at' 2 = BitVec.ofNat 16 c.hostWeight ∧ at' 5 ++ at' 4 = c.established ∧ (c.hostTurn ≤ 4 →
      (∀ x ∈ [(ChanState.off, 0), (.idle, 1), (.busy, 2), (.draining, 3), (.halted, 4)],
        c.state = x.1 → bits w 0 3 = x.2) ∧
      w.getLsbD 3 = c.enabled ∧ w.getLsbD 4 = c.sched.overrun ∧ bits w 13 3 = c.hostTurn ∧
      (c.held = none → bits w 5 3 = 0 ∧ bits w 8 5 = 0) ∧
      (∀ j, c.held = some (.job j) → bits w 8 5 = j.port.val ∧
        ∀ x ∈ [(DeviceKind.probe, 1), (.presence, 2), (.urgent, 3), (.regular, 4)], j.kind = x.1 → bits w 5 3 = x.2) ∧
      (∀ r, c.held = some (.host r) → bits w 5 3 = 5 ∧ bits w 8 5 = 0)) := by
  intro c at' w
  have words : ∀ n : Fin 6, at' n.val = c.word n.val := readWord_channel s ch
  refine ⟨words 0, words 1, words 2, ?_, fun turn => ?_⟩
  · rw [show at' 5 = _ from words 5, show at' 4 = _ from words 4]
    exact high_low c.established
  · obtain ⟨state, enabled, overrun, host, kind, port⟩ := channelStatus_fields turn
    have shown : w = c.statusWord := words 3
    rw [shown]
    refine ⟨fun x listed same => ?_, enabled, overrun, host, fun held => ?_, fun j held => ⟨?_, fun x listed same => ?_⟩,
      fun r held => ?_⟩
    · have codes : ∀ x ∈ [(ChanState.off, 0), (.idle, 1), (.busy, 2), (.draining, 3), (.halted, 4)], x.1.code = x.2 := by decide
      rw [state, same, codes x listed]
    · have granted : c.grant = .none := by simp only [Channel.grant, held]
      rw [kind, port, granted]
      exact ⟨rfl, rfl⟩
    · have granted : c.grant = .device j.kind j.port := by simp only [Channel.grant, held]
      rw [port, granted]
      rfl
    · have granted : c.grant = .device j.kind j.port := by simp only [Channel.grant, held]
      rw [kind, granted, same]
      simp only [List.mem_cons, List.not_mem_nil, or_false] at listed
      obtain rfl | rfl | rfl | rfl := listed <;> rfl
    · have granted : c.grant = .host := by simp only [Channel.grant, held]
      rw [kind, port, granted]
      exact ⟨rfl, rfl⟩

/-- R158: words 64H and 65H with an override. -/
theorem override_shown {s : State} {o : Override} (there : s.ie.records[s.ie.index].override = some o) :
    (s.readWord 0x64).getLsbD 0 = true ∧ bits (s.readWord 0x64) 1 3 = o.pattern.kind.code ∧
    bits (s.readWord 0x64) 4 2 = o.pattern.slot.val ∧ (s.readWord 0x64).getLsbD 6 = o.timer.isSome ∧
    (o.timer = none → s.readWord 0x65 = 0) ∧ ∀ n, o.timer = some n → n ≤ 65535000 →
      (s.readWord 0x65).toNat * 1000 < n + 1000 ∧ n ≤ (s.readWord 0x65).toNat * 1000 := by
  obtain ⟨present, kind, slot, timer⟩ := override_fields o
  rw [(readWord_override s).1, (readWord_override s).2, there]
  refine ⟨present, kind, slot, timer, fun none => ?_, fun n timed range => override_seconds timed range⟩
  simp [overrideSeconds, none]

/-- R174, R176: SDO and the single edges of the SPI port. -/
theorem spi_shown (s : State) :
    ((s.rstnLow = true ∨ s.spi = .idle) → s.sdo = none) ∧
    (s.rstnLow = false →
      (∀ b, s.spi = .command b → s.sdo = some false) ∧ (∀ a b, s.spi = .writing a b → s.sdo = some false) ∧
      (∀ a b l, s.spi = .reading a b l → s.sdo = some b) ∧
      (∀ a b x l, s.spi = .reading a b (x :: l) → s.spiEdge .fall = { s with spi := .reading a x l }) ∧
      (∀ a b, s.spi = .reading a b [] → s.spiEdge .fall =
        { s with spi := .reading (a + 1) ((s.readWord a).getLsbD 15) ((wordBits (s.readWord a)).drop 1) }) ∧
      s.spiEdge .select = { s with spi := .command [] } ∧ s.spiEdge .deselect = { s with spi := .idle } ∧
      (s.spi = .idle → s.spiEdge .fall = s ∧ ∀ d m0 m1, s.spiEdge (.rise d m0 m1) = s)) ∧
    (s.rstnLow = true → ∀ e, s.spiEdge e = s) := by
  refine ⟨fun released => ?_, fun running => ?_, fun low e => if_pos low⟩
  · obtain low | idle := released
    · exact if_pos low
    · simp [State.sdo, idle]
  · refine ⟨fun b spi => ?_, fun a b spi => ?_, fun a b l spi => ?_, fun a b x l spi => ?_, fun a b spi => ?_, ?_, ?_,
      fun spi => ⟨?_, fun d m0 m1 => ?_⟩⟩
    · simp [State.sdo, running, spi]
    · simp [State.sdo, running, spi]
    · simp [State.sdo, running, spi]
    · simp [State.spiEdge, running, State.spiFall, spi]
    · simp [State.spiEdge, running, State.spiFall, spi, wordBits, List.range_succ_eq_map]
    · simp [State.spiEdge, running]
    · simp [State.spiEdge, running]
    · simp [State.spiEdge, running, State.spiFall, spi]
    · simp [State.spiEdge, running, State.spiRise, spi]

/-- Settles O10: the words of the window group by group, then the pins. -/
theorem windowAndPinsShowTheState : Obligations.WindowAndPinsShowTheState := by
  refine ⟨fun s => ?_, fun s ch k => ⟨fun rest => busPins_rest rest k, fun f running flying rate =>
    (busPins_frame running flying rate).imp_right fun past => past k⟩, sampled_fields, fun s k => ⟨chainPins_rest,
    fun running => (chainPins_shift running).imp_right fun latch b first above below => latch k b first above below⟩,
    fun s => ?_⟩
  · obtain ⟨busy, idle, last, never, overflow⟩ := status_shown s
    obtain ⟨port, event, host⟩ := views_empty s
    refine ⟨rfl, rfl, busy, idle, last, never, overflow, host_fields, queue_fields, fun n => ?_, rfl, four_flags .., four_flags ..,
      result_shown s, attention_fields s, ⟨rfl, rfl, rfl, rfl, rfl, rfl, rfl, rfl, rfl, rfl⟩, fun n => ?_, port, event, host,
      fun a => readWord_unlisted s, indicator_shown s, rfl, fun few => ?_, fun n => ?_, channel_shown s, fun none => ?_,
      fun o => override_shown, slot_fields s⟩
    · fin_cases n <;> rfl
    · fin_cases n <;> rfl
    · rw [show s.readWord 0x06 = BitVec.ofNat 16 s.ht.completions.length from rfl, bits, BitVec.toNat_ofNat]
      omega
    · rw [show s.readWord 0x07 = s.att.levels.setWidth 16 from rfl, BitVec.getLsbD_setWidth]
      simp [show n.val < 16 by omega]
    · rw [(readWord_override s).1, (readWord_override s).2, none]
      exact ⟨rfl, rfl⟩
  · obtain ⟨released, driven, low⟩ := spi_shown s
    refine ⟨released, fun running => ?_, low⟩
    obtain ⟨command, writing, reading, next, last, select, deselect, idle⟩ := driven running
    exact ⟨command, writing, reading, next, last, select, deselect, idle, takeSpi_eq running⟩

end Sys2Proof.Laws
end

section
/-! PROOFS. How a port stands in the part: its record's state, binding and timers, its places in the queues of both channels,
and the job in flight for it. The laws of queues, jobs and work speak of each port's standing alone. -/
namespace Sys2Proof.Laws

open Sys2Proof.Machine Sys2Proof.Safety

/-! ### The standing of a port -/

/-- What the laws of queues, jobs and work read of a record. -/
structure RecordView where
  state : PortState
  binding : Option Binding
  retry : Bool
  lost : Bool

/-- A port's places on one channel: how often it waits on the urgent queue, the kinds with which it waits on the probe queue,
and the job in flight for it. -/
structure BusView where
  urgent : Nat
  members : List ProbeKind
  job : Option Job

/-- A port's record and its places on both channels. -/
structure Standing where
  record : RecordView
  bus : Chan → BusView

def recordView (r : PortRec) : RecordView := ⟨r.state, r.binding, r.probeRetry.isSome, r.lostCheck.isSome⟩

/-- The job of a port that a unit is. -/
def jobOf (u : Option HeldUnit) (p : PortId) : Option Job :=
  match u with
  | some (.job j) => if j.port = p then some j else none
  | _ => none

def busView (c : Channel) (p : PortId) : BusView :=
  ⟨c.sched.urgent.count p, (c.sched.probes.filter fun m => decide (m.1 = p)).map Prod.snd, jobOf c.held p⟩

def standing (s : State) (p : PortId) : Standing := ⟨recordView (s.port p), fun ch => busView (s.chan ch) p⟩

/-- R47: a job that a transition has marked stale. -/
def Job.stopped (j : Job) : Job := { j with stale := true }

/-- A job of a kind that is not stale is in flight. -/
def BusView.flies (b : BusView) (k : DeviceKind) : Bool :=
  match b.job with
  | some j => decide (j.kind = k) && !j.stale
  | none => false

/-- R45: the work of a kind on one channel. -/
def BusView.load (b : BusView) (k : ProbeKind) : Nat := bitN (decide (k ∈ b.members)) + bitN (b.flies k.unit)

/-- R58, R62: the timer of a kind of work. -/
def RecordView.timer (v : RecordView) : ProbeKind → Bool
  | .probe => v.retry
  | .presence => v.lost

/-- The channel of the binding. -/
def RecordView.home (v : RecordView) : Option Chan := v.binding.map Binding.channel

/-- R12, R39, R43, R45, R58, R62, R83: the laws of a port's standing. The law of work waits while SOFT_RESET drains. -/
structure Fits (x : Standing) (profiles : Vector (Option Profile) 8) (quiet : Bool) : Prop where
  bound : x.record.binding.isSome = decide (x.record.state ≠ .unbound)
  installed : ∀ b ∈ x.record.binding, profiles[b.profile].isSome = true
  retry : x.record.retry = true → x.record.state = .probing
  lost : x.record.lost = true → x.record.state = .lost
  urgentOnce : ∀ ch, (x.bus ch).urgent ≤ 1
  urgent : ∀ ch, 0 < (x.bus ch).urgent → x.record.state = .active ∧ x.record.home = some ch
  membersOnce : ∀ ch, (x.bus ch).members.length ≤ 1
  members : ∀ ch, ∀ k ∈ (x.bus ch).members, x.record.state = memberState k ∧ x.record.home = some ch
  fresh : ∀ ch j, (x.bus ch).job = some j → j.stale = false →
    x.record.binding = some j.binding ∧ j.binding.channel = ch ∧ profiles[j.binding.profile] = some j.profile ∧
      x.record.state = j.kind.needs
  single : ∀ ch j, (x.bus ch).job = some j → j.kind = .presence → j.current = .presence ∧ j.todo = []
  work : quiet = true → ∀ k, x.record.state = memberState k →
    (x.bus .ch0).load k + (x.bus .ch1).load k + bitN (x.record.timer k) = 1

/-- Every installed profile has a plan entry, and every port stands in order. -/
structure Supervised (s : State) : Prop where
  plan : ∀ n : Fin 8, ∀ f ∈ s.ps.profiles[n], f.plan ≠ []
  ports : ∀ p, Fits (standing s p) s.ps.profiles (!s.cu.softResetting)

theorem standing_eq {t : State} {q : PortId} {x : Standing} (record : recordView (t.port q) = x.record)
    (bus : ∀ ch, busView (t.chan ch) q = x.bus ch) : standing t q = x := by
  cases x
  exact congr (congrArg Standing.mk record) (funext bus)

/-! ### The laws of the part, port by port -/

theorem jobOf_eq_some {u : Option HeldUnit} {p : PortId} {j : Job} : jobOf u p = some j ↔ u = some (.job j) ∧ j.port = p := by
  unfold jobOf
  split
  · next x =>
    by_cases same : x.port = p
    · rw [if_pos same]
      constructor
      · rintro ⟨⟩
        exact ⟨rfl, same⟩
      · rintro ⟨⟨⟩, -⟩
        rfl
    · rw [if_neg same]
      constructor
      · exact nofun
      · rintro ⟨⟨⟩, there⟩
        exact absurd there same
  · next other =>
    constructor
    · exact nofun
    · rintro ⟨held, -⟩
      exact absurd held (other j)

theorem mem_members {c : Channel} {p : PortId} {k : ProbeKind} : k ∈ (busView c p).members ↔ (p, k) ∈ c.sched.probes := by
  simp [busView]

theorem length_members (c : Channel) (p : PortId) : (busView c p).members.length = (c.sched.probes.map Prod.fst).count p := by
  simp only [busView, List.length_map, ← List.countP_eq_length_filter, List.count, List.countP_map]
  refine List.countP_congr fun m _ => ?_
  simp

theorem home_iff (r : PortRec) (ch : Chan) : (recordView r).home = some ch ↔ r.onChannel ch = true := by
  unfold RecordView.home recordView PortRec.onChannel
  cases r.binding <;> simp

theorem activeOn_iff_home (r : PortRec) (ch : Chan) :
    r.activeOn ch = true ↔ (recordView r).state = .active ∧ (recordView r).home = some ch := by
  rw [home_iff, PortRec.activeOn, Bool.and_eq_true, decide_eq_true_eq]
  rfl

theorem waits_eq (c : Channel) (p : PortId) (k : ProbeKind) : waits c p k = decide (k ∈ (busView c p).members) := by
  rw [Bool.eq_iff_iff, decide_eq_true_eq, mem_members, waits, List.any_eq_true]
  constructor
  · rintro ⟨m, there, same⟩
    rwa [← of_decide_eq_true same]
  · exact fun there => ⟨_, there, decide_eq_true rfl⟩

theorem flies_eq (c : Channel) (p : PortId) (k : DeviceKind) : flies c p k = (busView c p).flies k := by
  unfold Safety.flies BusView.flies busView jobOf
  cases c.held with
  | none => rfl
  | some u =>
    cases u with
    | host r => rfl
    | job j => by_cases same : j.port = p <;> simp [same]

theorem oneWork_iff (s : State) (p : PortId) (k : ProbeKind) (timer : Option Nat)
    (same : timer.isSome = (recordView (s.port p)).timer k) :
    oneWork s p k timer ↔ ((standing s p).bus .ch0).load k + ((standing s p).bus .ch1).load k +
      bitN ((standing s p).record.timer k) = 1 := by
  unfold oneWork
  rw [waits_eq, waits_eq, flies_eq, flies_eq, same]
  change _ ↔ bitN (decide (k ∈ (busView s.ch0 p).members)) + bitN ((busView s.ch0 p).flies k.unit) +
    (bitN (decide (k ∈ (busView s.ch1 p).members)) + bitN ((busView s.ch1 p).flies k.unit)) +
      bitN ((recordView (s.port p)).timer k) = 1
  omega

theorem supervised_of_lawful {s : State} (h : Lawful s) : Supervised s := by
  have queue : ∀ ch, QueueLaw s ch := fun ch => match ch with
    | .ch0 => h.queue0
    | .ch1 => h.queue1
  have job : ∀ ch, JobLaw s ch := fun ch => match ch with
    | .ch0 => h.job0
    | .ch1 => h.job1
  have fits : ∀ ch j, (s.chan ch).held = some (.job j) → jobFits s ch j := fun ch j held => by
    have law := job ch
    simpa only [JobLaw, held] using law
  refine ⟨h.profiles.plan, fun p => ?_⟩
  have record := h.ports.records p
  have bound : (s.port p).binding.isSome = (s.port p).bound := record.bound
  refine ⟨?_, fun b there => ?_, record.retry, record.lost, fun ch => List.nodup_iff_count_le_one.mp (queue ch).urgentOnce p,
    fun ch there => (activeOn_iff_home ..).mp ((queue ch).urgent p (List.count_pos_iff.mp there)), fun ch => ?_, fun ch k there => ?_,
    fun ch j there fresh => ?_, fun ch j there kind => ?_, fun quiet k state => ?_⟩
  · rw [show (standing s p).record.binding = (s.port p).binding from rfl, bound]
    rfl
  · exact h.profiles.installed p (bound.symm.trans (by rw [show (s.port p).binding = some b from there]; rfl)) b there
  · exact (length_members (s.chan ch) p).trans_le (List.nodup_iff_count_le_one.mp (queue ch).probesOnce p)
  · obtain ⟨state, home⟩ := (queue ch).probes (p, k) (mem_members.mp there)
    exact ⟨state, (home_iff ..).mpr home⟩
  · obtain ⟨held, rfl⟩ := jobOf_eq_some.mp there
    exact (fits ch j held).1 fresh
  · obtain ⟨held, rfl⟩ := jobOf_eq_some.mp there
    exact (fits ch j held).2 kind
  · have quiet : s.cu.softResetting = false := by simpa using quiet
    cases k with
    | probe => exact (oneWork_iff s p .probe _ rfl).mp (h.work.probing quiet p state)
    | presence => exact (oneWork_iff s p .presence _ rfl).mp (h.work.lost quiet p state)

theorem Supervised.queueLaw {s : State} (h : Supervised s) (ch : Chan) : QueueLaw s ch where
  urgentOnce := List.nodup_iff_count_le_one.mpr fun p => (h.ports p).urgentOnce ch
  urgent := fun p there => (activeOn_iff_home ..).mpr ((h.ports p).urgent ch (List.count_pos_iff.mpr there))
  probesOnce := List.nodup_iff_count_le_one.mpr fun p => (length_members (s.chan ch) p).symm.trans_le ((h.ports p).membersOnce ch)
  probes := fun m there =>
    have own := (h.ports m.1).members ch m.2 (mem_members.mpr there)
    ⟨own.1, (home_iff ..).mp own.2⟩

theorem Supervised.profileLaw {s : State} (h : Supervised s) : ProfileLaw s :=
  ⟨h.plan, fun p _ b there => (h.ports p).installed b there⟩

theorem Supervised.jobLaw {s : State} (h : Supervised s) (ch : Chan) : JobLaw s ch := by
  unfold JobLaw
  split
  · next j held =>
    have there : ((standing s j.port).bus ch).job = some j := jobOf_eq_some.mpr ⟨held, rfl⟩
    exact ⟨(h.ports j.port).fresh ch j there, (h.ports j.port).single ch j there⟩
  · trivial

theorem Supervised.workLaw {s : State} (h : Supervised s) : WorkLaw s where
  probing := fun quiet p state => (oneWork_iff s p .probe _ rfl).mpr ((h.ports p).work (by simp [quiet]) .probe state)
  lost := fun quiet p state => (oneWork_iff s p .presence _ rfl).mpr ((h.ports p).work (by simp [quiet]) .presence state)

/-! ### Steps that touch one port -/

/-- Only the standing of one port may differ. -/
structure Touches (p : PortId) (s t : State) : Prop where
  profiles : t.ps.profiles = s.ps.profiles
  quiet : t.cu.softResetting = s.cu.softResetting
  others : ∀ q, q ≠ p → standing t q = standing s q

/-- No port's standing differs. -/
structure SameStanding (s t : State) : Prop where
  profiles : t.ps.profiles = s.ps.profiles
  quiet : t.cu.softResetting = s.cu.softResetting
  standing : ∀ q, standing t q = standing s q

theorem SameStanding.refl (s : State) : SameStanding s s := ⟨rfl, rfl, fun _ => rfl⟩

theorem SameStanding.trans {s t u : State} (a : SameStanding s t) (b : SameStanding t u) : SameStanding s u :=
  ⟨b.profiles.trans a.profiles, b.quiet.trans a.quiet, fun q => (b.standing q).trans (a.standing q)⟩

theorem SameStanding.touches {s t : State} (h : SameStanding s t) (p : PortId) : Touches p s t :=
  ⟨h.profiles, h.quiet, fun q _ => h.standing q⟩

theorem Touches.trans {p : PortId} {s t u : State} (a : Touches p s t) (b : Touches p t u) : Touches p s u :=
  ⟨b.profiles.trans a.profiles, b.quiet.trans a.quiet, fun q other => (b.others q other).trans (a.others q other)⟩

theorem Touches.supervised {p : PortId} {s t : State} (h : Touches p s t) (law : Supervised s)
    (own : Fits (standing t p) s.ps.profiles (!s.cu.softResetting)) : Supervised t := by
  refine ⟨by rw [h.profiles]; exact law.plan, fun q => ?_⟩
  rw [h.profiles, h.quiet]
  by_cases same : q = p
  · rw [same]
    exact own
  · rw [h.others q same]
    exact law.ports q

theorem SameStanding.supervised {s t : State} (h : SameStanding s t) (law : Supervised s) : Supervised t := by
  refine ⟨by rw [h.profiles]; exact law.plan, fun q => ?_⟩
  rw [h.profiles, h.quiet, h.standing]
  exact law.ports q

theorem standing_of_apart {s t : State} (h : Apart s t) (q : PortId) : standing t q = standing s q := by
  have chan : ∀ ch, t.chan ch = s.chan ch := fun ch => match ch with
    | .ch0 => h.ch0
    | .ch1 => h.ch1
  simp only [standing, recordView, h.state, h.binding, h.probeRetry, h.lostCheck, chan]

theorem Apart.sameStanding {s t : State} (h : Apart s t) : SameStanding s t :=
  ⟨h.profiles, by simp only [CommandUnit.softResetting, h.timed], standing_of_apart h⟩

theorem standing_setChan (s : State) (ch : Chan) (c : Channel) (q : PortId) :
    standing (s.setChan ch c) q =
      ⟨(standing s q).record, fun ch' => if ch' = ch then busView c q else (standing s q).bus ch'⟩ := by
  refine congr (congrArg Standing.mk (by rw [State.port_setChan]; rfl)) (funext fun ch' => ?_)
  by_cases same : ch' = ch
  · rw [if_pos same, same, State.chan_setChan_self]
  · rw [if_neg same, State.chan_setChan_of_ne _ _ _ _ same]
    rfl

/-- A channel replaced by one on which each port has the same places. -/
theorem sameStanding_setChan {s : State} {ch : Chan} {c : Channel} (same : ∀ q, busView c q = busView (s.chan ch) q) :
    SameStanding s (s.setChan ch c) := by
  refine ⟨by rw [State.setChan_ps], by rw [State.setChan_cu], fun q => ?_⟩
  rw [standing_setChan]
  refine congrArg (Standing.mk _) (funext fun ch' => ?_)
  split
  · next here => rw [here, same]
  · rfl

/-- A channel replaced by one on which each port but one has the same places. -/
theorem touches_setChan {p : PortId} {s : State} {ch : Chan} {c : Channel}
    (same : ∀ q, q ≠ p → busView c q = busView (s.chan ch) q) : Touches p s (s.setChan ch c) := by
  refine ⟨by rw [State.setChan_ps], by rw [State.setChan_cu], fun q other => ?_⟩
  rw [standing_setChan]
  refine congrArg (Standing.mk _) (funext fun ch' => ?_)
  split
  · next here => rw [here, same q other]
  · rfl

end Sys2Proof.Laws
end

section
/-! PROOFS. What transitions, timers, returned members and ended jobs make of a port's standing (R45, R47, R59). -/
namespace Sys2Proof.Laws

open Sys2Proof.Machine Sys2Proof.Safety

/-! ### Places after the single operations -/

/-- The unit that holds a channel ended. -/
def BusView.freed (b : BusView) : BusView := { b with job := none }

/-- What is in flight marked stale. -/
def BusView.stopped (b : BusView) : BusView := { b with job := b.job.map Job.stopped }

theorem jobOf_staled_self (u : Option HeldUnit) (p : PortId) : jobOf (u.map (staled p)) p = (jobOf u p).map Job.stopped := by
  cases u with
  | none => rfl
  | some u =>
    cases u with
    | job j => by_cases same : j.port = p <;> simp [jobOf, staled, same, Job.stopped]
    | host r => cases op : r.current.txn.op <;> simp [jobOf, staled, op]

theorem jobOf_staled_of_ne (u : Option HeldUnit) {p q : PortId} (other : q ≠ p) : jobOf (u.map (staled p)) q = jobOf u q := by
  cases u with
  | none => rfl
  | some u =>
    cases u with
    | job j =>
      by_cases same : j.port = q
      · subst same
        simp [jobOf, staled, other]
      · simp [jobOf, staled, same]
    | host r => cases op : r.current.txn.op <;> simp [jobOf, staled, op]

theorem busView_withoutPort_of_ne (c : Channel) {p q : PortId} (other : q ≠ p) (old : PortState) :
    busView { c with sched := withoutPort c.sched p old } q = busView c q := by
  have urgent : (c.sched.urgent.filter fun x => decide (x ≠ p)).count q = c.sched.urgent.count q :=
    List.count_filter (by simpa using other)
  have probes : (c.sched.probes.filter fun m => decide (m.1 ≠ p)).filter (fun m => decide (m.1 = q)) =
      c.sched.probes.filter fun m => decide (m.1 = q) := by
    rw [List.filter_filter]
    refine List.filter_congr fun m _ => ?_
    by_cases same : m.1 = q
    · simp [same, other]
    · simp [same]
  simp only [busView, withoutPort]
  split <;> split <;> simp only [urgent, probes]

theorem busView_withProbe_of_ne (c : Channel) {p q : PortId} (other : q ≠ p) (k : ProbeKind) :
    busView { c with sched := withProbe c.sched p k } q = busView c q := by
  simp only [busView, withProbe]
  split
  · rfl
  · simp [List.filter_append, other.symm]

theorem busView_withProbeFirst_of_ne (c : Channel) {p q : PortId} (other : q ≠ p) (k : ProbeKind) :
    busView { c with sched := withProbeFirst c.sched p k } q = busView c q := by
  simp only [busView, withProbeFirst]
  split
  · rfl
  · simp [other.symm]

theorem members_eq_nil {c : Channel} {p : PortId} (none : (busView c p).members = []) : p ∉ c.sched.probes.map Prod.fst := by
  rintro there
  obtain ⟨m, listed, rfl⟩ := List.mem_map.mp there
  have : m.2 ∈ (busView c m.1).members := mem_members.mpr listed
  rw [none] at this
  exact absurd this List.not_mem_nil

theorem busView_withProbe_self {c : Channel} {p : PortId} (none : (busView c p).members = []) (k : ProbeKind) :
    busView { c with sched := withProbe c.sched p k } p = { busView c p with members := [k] } := by
  have filtered : c.sched.probes.filter (fun m => decide (m.1 = p)) = [] := List.map_eq_nil_iff.mp none
  simp [busView, withProbe, members_eq_nil none, List.filter_append, filtered]

theorem busView_withProbeFirst_self {c : Channel} {p : PortId} (none : (busView c p).members = []) (k : ProbeKind) :
    busView { c with sched := withProbeFirst c.sched p k } p = { busView c p with members := [k] } := by
  have filtered : c.sched.probes.filter (fun m => decide (m.1 = p)) = [] := List.map_eq_nil_iff.mp none
  simp [busView, withProbeFirst, members_eq_nil none, filtered]

theorem busView_withoutPort_self (c : Channel) (p : PortId) (old : PortState) :
    busView { c with sched := withoutPort c.sched p old } p =
      { busView c p with
        urgent := if old = .active then 0 else (busView c p).urgent
        members := if old = .probing ∨ old = .lost then [] else (busView c p).members } := by
  have urgent : (c.sched.urgent.filter fun x => decide (x ≠ p)).count p = 0 := by
    rw [List.count_eq_zero]
    simp
  have probes : (c.sched.probes.filter fun m => decide (m.1 ≠ p)).filter (fun m => decide (m.1 = p)) = [] := by
    rw [List.filter_filter, List.filter_eq_nil_iff]
    simp
  simp only [busView, withoutPort]
  split <;> split <;> simp only [urgent, probes, List.map_nil]

theorem busView_entering_self {c : Channel} {p : PortId} (none : (busView c p).members = []) (ch : Chan) (r : PortRec)
    (new : PortState) :
    busView (entering c ch r p new) p =
      { busView c p with members := if new = .probing ∧ (recordView r).home = some ch then [.probe] else [] } := by
  have same : busView c p = { busView c p with members := [] } := by rw [← none]
  unfold entering
  by_cases on : r.onChannel ch = true
  · rw [if_pos on, enter_eq]
    by_cases probing : new = .probing
    · rw [if_pos probing, if_pos ⟨probing, (home_iff ..).mpr on⟩]
      exact busView_withProbe_self none .probe
    · rw [if_neg probing, if_neg fun both => probing both.1]
      exact same
  · rw [if_neg on, if_neg fun both => on ((home_iff ..).mp both.2)]
    exact same

theorem busView_entering_of_ne (c : Channel) {p q : PortId} (other : q ≠ p) (ch : Chan) (r : PortRec) (new : PortState) :
    busView (entering c ch r p new) q = busView c q := by
  unfold entering
  split
  · rw [enter_eq]
    split
    · exact busView_withProbe_of_ne c other .probe
    · rfl
  · rfl

theorem busView_leaving_of_ne (c : Channel) {p q : PortId} (other : q ≠ p) (ch : Chan) (r : PortRec) :
    busView (leaving c ch r p) q = busView c q := by
  have staled : busView (leaving c ch r p) q =
      busView { c with sched := if r.onChannel ch then withoutPort c.sched p r.state else c.sched } q := by
    simp only [busView, leaving, jobOf_staled_of_ne _ other]
  rw [staled]
  split
  · exact busView_withoutPort_of_ne _ other _
  · rfl

/-! ### A transition -/

/-- R47: a port's standing after a transition. -/
def Standing.entered (x : Standing) (new : PortState) (binding : Option Binding) : Standing where
  record := ⟨new, binding, false, decide (new = .lost)⟩
  bus ch :=
    { urgent := 0
      members := if new = .probing ∧ binding.map Binding.channel = some ch then [.probe] else []
      job := (x.bus ch).job.map Job.stopped }

/-- R47 (c): a port that has left its state's queue stands in no queue. -/
theorem busView_left {x : Standing} {profiles : Vector (Option Profile) 8} {quiet : Bool} (h : Fits x profiles quiet)
    {c : Channel} {ch : Chan} {p : PortId} {r : PortRec} (record : x.record = recordView r) (bus : x.bus ch = busView c p) :
    busView (leaving c ch r p) p = ⟨0, [], (busView c p).job.map Job.stopped⟩ := by
  have urgent := h.urgent ch
  have members := h.members ch
  rw [bus, record] at urgent members
  have home := home_iff r ch
  have staled : busView (leaving c ch r p) p =
      { busView { c with sched := if r.onChannel ch then withoutPort c.sched p r.state else c.sched } p with
        job := (busView c p).job.map Job.stopped } := by
    simp only [busView, leaving, jobOf_staled_self]
  rw [staled]
  by_cases on : r.onChannel ch = true
  · rw [if_pos on, busView_withoutPort_self]
    refine congr (congr (congrArg BusView.mk ?_) ?_) rfl
    · dsimp only
      split
      · rfl
      · next other => exact Nat.eq_zero_of_not_pos fun there => other (urgent there).1
    · dsimp only
      split
      · rfl
      · next other =>
        refine List.eq_nil_iff_forall_not_mem.mpr fun k there => other ?_
        have state : r.state = memberState k := (members k there).1
        cases k
        · exact .inl state
        · exact .inr state
  · rw [if_neg on]
    refine congr (congr (congrArg BusView.mk ?_) ?_) rfl
    · exact Nat.eq_zero_of_not_pos fun there => on (home.mp (urgent there).2)
    · exact List.eq_nil_iff_forall_not_mem.mpr fun k there => on (home.mp (members k there).2)

theorem standing_transition {s : State} {p : PortId} (h : Fits (standing s p) s.ps.profiles (!s.cu.softResetting))
    (new : PortState) (why : Option Reason) (eff : PortRec → PortRec) :
    standing (s.transition p new why eff) p = (standing s p).entered new (eff (s.port p)).binding ∧
    Touches p s (s.transition p new why eff) := by
  have moved : ∀ ch, (s.transition p new why eff).chan ch =
      entering (leaving (s.chan ch) ch (s.port p) p) ch
        { eff (s.port p) with
          state := new, reason := why, probeRetry := none
          lostCheck := if new = .lost then some s.pt.lostInterval else none } p new := by
    intro ch
    rw [transition_eq]
    cases ch <;> rfl
  have others : ∀ q, q ≠ p → (s.transition p new why eff).port q = s.port q := by
    intro q other
    rw [transition_eq]
    exact State.port_setPort_of_ne _ _ _ _ other
  have own : recordView ((s.transition p new why eff).port p) = ⟨new, (eff (s.port p)).binding, false, decide (new = .lost)⟩ := by
    have record := congrArg recordView (State.port_setPort_self s p (reported { eff (s.port p) with
        state := new, reason := why, probeRetry := none
        lostCheck := if new = .lost then some s.pt.lostInterval else none }
      (s.ev.take (.stateChange p (s.port p).state new why) s.stamp).2))
    rw [transition_eq]
    refine Eq.trans record ?_
    by_cases lost : new = .lost <;> simp [recordView, reported, lost]
  refine ⟨?_, ?_, ?_, fun q other => ?_⟩
  · refine standing_eq own fun ch => ?_
    have left := busView_left h (c := s.chan ch) (ch := ch) (p := p) (r := s.port p) rfl rfl
    rw [moved, busView_entering_self (by rw [left]), left]
    rfl
  · rw [transition_eq]
  · rw [transition_eq]
  · refine standing_eq (by rw [others q other]; rfl) fun ch => ?_
    rw [moved, busView_entering_of_ne _ other, busView_leaving_of_ne _ other]
    rfl

/-- A stopped job is stale. -/
theorem stale_of_map {o : Option Job} {j : Job} (h : o.map Job.stopped = some j) : j.stale = true := by
  obtain ⟨x, -, rfl⟩ := Option.map_eq_some_iff.mp h
  rfl

theorem flies_stopped (u : Nat) (m : List ProbeKind) (o : Option Job) (k : DeviceKind) :
    BusView.flies ⟨u, m, o.map Job.stopped⟩ k = false := by
  unfold BusView.flies
  cases o <;> simp [Job.stopped]

/-- R45, R47: the standing after a transition, for a binding that is there exactly in a bound state. -/
theorem fits_entered {x : Standing} {profiles : Vector (Option Profile) 8} {quiet : Bool} (h : Fits x profiles quiet)
    {new : PortState} {binding : Option Binding} (bound : binding.isSome = decide (new ≠ .unbound))
    (installed : ∀ b ∈ binding, profiles[b.profile].isSome = true) : Fits (x.entered new binding) profiles quiet where
  bound := bound
  installed := installed
  retry := nofun
  lost := of_decide_eq_true
  urgentOnce := fun _ => Nat.zero_le 1
  urgent := fun _ there => absurd there (Nat.lt_irrefl 0)
  membersOnce := fun ch => by
    dsimp only [Standing.entered]
    split
    · exact Nat.le_refl 1
    · exact Nat.zero_le 1
  members := fun ch k there => by
    dsimp only [Standing.entered] at there
    split at there
    · next both =>
      obtain rfl := List.mem_singleton.mp there
      exact both
    · exact absurd there List.not_mem_nil
  fresh := fun ch j there fresh => by simp [stale_of_map there] at fresh
  single := fun ch j there kind => by
    obtain ⟨y, before, rfl⟩ := Option.map_eq_some_iff.mp there
    exact h.single ch y before kind
  work := fun _ k state => by
    have quiet_bus : ∀ ch, ((x.entered new binding).bus ch).flies k.unit = false := fun ch => flies_stopped ..
    have state : new = memberState k := state
    have there : binding.isSome = true := by
      rw [bound, state]
      cases k <;> rfl
    obtain ⟨b, rfl⟩ := Option.isSome_iff_exists.mp there
    simp only [BusView.load, quiet_bus]
    cases k
    · obtain rfl : new = .probing := state
      cases home : b.channel <;> simp [Standing.entered, RecordView.timer, home, bitN]
    · obtain rfl : new = .lost := state
      simp [Standing.entered, RecordView.timer, bitN]

/-- R47: a transition of a port keeps the supervision, for a binding that is there exactly in a bound state. -/
theorem supervised_transition {s : State} (h : Supervised s) (p : PortId) {new : PortState} (why : Option Reason)
    {eff : PortRec → PortRec} (bound : (eff (s.port p)).binding.isSome = decide (new ≠ .unbound))
    (installed : ∀ b ∈ (eff (s.port p)).binding, s.ps.profiles[b.profile].isSome = true) :
    Supervised (s.transition p new why eff) := by
  obtain ⟨own, touches⟩ := standing_transition (h.ports p) new why eff
  exact touches.supervised h (own ▸ fits_entered (h.ports p) bound installed)

end Sys2Proof.Laws
end

section
/-! PROOFS. What the ends of frames and units leave of the supervision of the ports (R45, R53 to R64, R100). -/
namespace Sys2Proof.Laws

open Sys2Proof.Machine Sys2Proof.Safety

/-! ### What a frame read leaves -/

theorem Observed.apart {s t : State} (h : Observed s t) : Apart s t := by
  have blocks := h.blocks
  exact ⟨by rw [blocks], by rw [blocks], by rw [blocks], by rw [blocks], by rw [blocks], h.state, h.binding, h.probeRetry,
    h.lostCheck⟩

theorem Observed.sameStanding {s t : State} (h : Observed s t) : SameStanding s t := h.apart.sameStanding

theorem observed_modPort {s : State} {p : PortId} {f : PortRec → PortRec} (state : ∀ r, (f r).state = r.state)
    (binding : ∀ r, (f r).binding = r.binding) (probeRetry : ∀ r, (f r).probeRetry = r.probeRetry)
    (lostCheck : ∀ r, (f r).lostCheck = r.lostCheck) : Observed s (s.modPort p f) :=
  observed_setPort (state _) (binding _) (probeRetry _) (lostCheck _)

theorem observed_clearLive (s : State) (p : PortId) : Observed s (s.clearLive p) := by
  rw [clearLive_eq]
  have kept := observed_setPort (s := s) (p := p)
    (r := reported (cleared (s.port p)) (posted s.ev s.stamp (clearingEvents (s.port p) p)).2) rfl rfl rfl rfl
  exact ⟨rfl, kept.state, kept.binding, kept.probeRetry, kept.lostCheck, posted_settings ..⟩

/-! ### Standings with one channel's places replaced -/

/-- A standing with the places on one channel replaced. -/
def Standing.at (x : Standing) (ch : Chan) (b : BusView) : Standing :=
  { x with bus := fun ch' => if ch' = ch then b else x.bus ch' }

theorem Standing.bus_at_self (x : Standing) (ch : Chan) (b : BusView) : (Standing.at x ch b).bus ch = b := if_pos rfl

theorem Standing.bus_at_of_ne (x : Standing) {ch ch' : Chan} (b : BusView) (other : ch' ≠ ch) :
    (Standing.at x ch b).bus ch' = x.bus ch' := if_neg other

theorem standing_setChan_at (s : State) (ch : Chan) (c : Channel) (q : PortId) :
    standing (s.setChan ch c) q = Standing.at (standing s q) ch (busView c q) := standing_setChan s ch c q

/-- The whole work over both channels, with one channel named. -/
theorem load_both (x : Standing) (k : ProbeKind) (ch : Chan) :
    (x.bus .ch0).load k + (x.bus .ch1).load k = (x.bus ch).load k + (x.bus (other ch)).load k := by
  cases ch
  · rfl
  · exact Nat.add_comm ..

/-- The laws of places that a channel's own view gives. -/
structure BusFits (v : RecordView) (profiles : Vector (Option Profile) 8) (ch : Chan) (b : BusView) : Prop where
  urgentOnce : b.urgent ≤ 1
  urgent : 0 < b.urgent → v.state = .active ∧ v.home = some ch
  membersOnce : b.members.length ≤ 1
  members : ∀ k ∈ b.members, v.state = memberState k ∧ v.home = some ch
  fresh : ∀ j, b.job = some j → j.stale = false →
    v.binding = some j.binding ∧ j.binding.channel = ch ∧ profiles[j.binding.profile] = some j.profile ∧
      v.state = j.kind.needs
  single : ∀ j, b.job = some j → j.kind = .presence → j.current = .presence ∧ j.todo = []

section
variable {x : Standing} {profiles : Vector (Option Profile) 8} {quiet : Bool} (h : Fits x profiles quiet)
include h

theorem Fits.busFits (ch : Chan) : BusFits x.record profiles ch (x.bus ch) :=
  ⟨h.urgentOnce ch, h.urgent ch, h.membersOnce ch, h.members ch, h.fresh ch, h.single ch⟩

/-- The record kept and the places on one channel replaced. -/
theorem Fits.at {ch : Chan} {b : BusView} (fits : BusFits x.record profiles ch b)
    (work : quiet = true → ∀ k, x.record.state = memberState k → b.load k = (x.bus ch).load k) :
    Fits (Standing.at x ch b) profiles quiet := by
  have each : ∀ ch', BusFits x.record profiles ch' ((Standing.at x ch b).bus ch') := by
    intro ch'
    by_cases here : ch' = ch
    · rw [here, Standing.bus_at_self]
      exact fits
    · rw [Standing.bus_at_of_ne x b here]
      exact h.busFits ch'
  refine ⟨h.bound, h.installed, h.retry, h.lost, fun ch => (each ch).urgentOnce, fun ch => (each ch).urgent,
    fun ch => (each ch).membersOnce, fun ch => (each ch).members, fun ch => (each ch).fresh, fun ch => (each ch).single,
    fun q k state => ?_⟩
  have before := h.work q k state
  rw [load_both _ k ch] at before ⊢
  rw [Standing.bus_at_self, Standing.bus_at_of_ne x b (show other ch ≠ ch by cases ch <;> decide), work q k state]
  exact before

/-- R100: the job in flight ends, its work done or void. -/
theorem Fits.freed {ch : Chan} (void : quiet = true → ∀ k, x.record.state = memberState k → (x.bus ch).flies k.unit = false) :
    Fits (Standing.at x ch (x.bus ch).freed) profiles quiet := by
  have own := h.busFits ch
  have fits : BusFits x.record profiles ch (x.bus ch).freed :=
    ⟨own.urgentOnce, own.urgent, own.membersOnce, own.members, fun j there => absurd there.symm (Option.some_ne_none j),
      fun j there => absurd there.symm (Option.some_ne_none j)⟩
  refine h.at fits fun q k state => ?_
  rw [BusView.load, BusView.load, void q k state]
  rfl

/-- The next frame or piece of the job in flight. -/
theorem Fits.renewed {ch : Chan} {j j' : Job} (held : (x.bus ch).job = some j) (kind : j'.kind = j.kind)
    (stale : j'.stale = j.stale) (binding : j'.binding = j.binding) (profile : j'.profile = j.profile)
    (single : j.kind = .presence → j'.current = .presence ∧ j'.todo = []) :
    Fits (Standing.at x ch { x.bus ch with job := some j' }) profiles quiet := by
  have own := h.busFits ch
  refine h.at ⟨own.urgentOnce, own.urgent, own.membersOnce, own.members, ?_, ?_⟩ fun q k state => ?_
  · rintro _ ⟨⟩ fresh
    simp only [binding, profile, kind]
    exact own.fresh j held (stale ▸ fresh)
  · rintro _ ⟨⟩ presence
    exact single (kind ▸ presence)
  · simp only [BusView.load, BusView.flies, held, kind, stale]

/-- R47 (b): what is in flight for a port without work is marked stale. -/
theorem Fits.stopped (idle : quiet = true → ∀ k, x.record.state ≠ memberState k) :
    Fits { x with bus := fun ch => (x.bus ch).stopped } profiles quiet := by
  refine ⟨h.bound, h.installed, h.retry, h.lost, h.urgentOnce, h.urgent, h.membersOnce, h.members,
    fun ch j there fresh => by simp [stale_of_map there] at fresh, fun ch j there kind => ?_,
    fun q k state => absurd state (idle q k)⟩
  obtain ⟨y, before, rfl⟩ := Option.map_eq_some_iff.mp there
  exact h.single ch y before kind

end

/-! ### The work in flight -/

theorem memberState_injective {k l : ProbeKind} (h : memberState k = memberState l) : k = l := by
  cases k <;> cases l <;> simp_all [memberState]

/-- R45: a probe or presence check in flight is the port's one work. -/
theorem Fits.sole {x : Standing} {profiles : Vector (Option Profile) 8} (h : Fits x profiles true) {ch : Chan} {j : Job}
    {k : ProbeKind} (held : (x.bus ch).job = some j) (fresh : j.stale = false) (kind : j.kind = k.unit) :
    x.record.state = memberState k ∧ x.record.binding = some j.binding ∧ j.binding.channel = ch ∧
    (∀ ch', (x.bus ch').members = []) ∧ x.record.timer k = false ∧ (x.bus (other ch)).flies k.unit = false := by
  obtain ⟨bound, home, -, state⟩ := h.fresh ch j held fresh
  rw [kind, needs_unit] at state
  have flies : (x.bus ch).flies k.unit = true := by simp [BusView.flies, held, fresh, kind]
  have work := h.work rfl k state
  rw [load_both _ k ch, BusView.load, BusView.load, flies, bitN_true] at work
  have empty : ∀ ch', k ∉ (x.bus ch').members → (x.bus ch').members = [] := fun ch' absent =>
    List.eq_nil_iff_forall_not_mem.mpr fun l there =>
      absent (memberState_injective ((h.members ch' l there).1.symm.trans state) ▸ there)
  have none_of : ∀ b : Bool, bitN b = 0 → b = false := by decide
  refine ⟨state, bound, home, fun ch' => empty ch' ?_, none_of _ (by omega), none_of _ (by omega)⟩
  have waits : bitN (decide (k ∈ (x.bus ch').members)) = 0 := by
    by_cases here : ch' = ch
    · rw [here]
      omega
    · rw [show ch' = other ch by cases ch <;> cases ch' <;> first | rfl | exact absurd rfl here]
      omega
  exact of_decide_eq_false (none_of _ waits)

end Sys2Proof.Laws
end

section
/-! PROOFS. The end of a job and what its outcome leaves of the supervision of the ports (R45, R53 to R64, R100). -/
namespace Sys2Proof.Laws

open Sys2Proof.Machine Sys2Proof.Safety

/-! ### The three ends of a check in flight -/

/-- R58, R62: the timer of a kind of work runs. -/
def RecordView.timed (v : RecordView) : ProbeKind → RecordView
  | .probe => { v with retry := true }
  | .presence => { v with lost := true }

/-- R58, R62: the check in flight is stale and the timer runs in its stead. -/
theorem Fits.timed {x : Standing} {profiles : Vector (Option Profile) 8} (h : Fits x profiles true) {ch : Chan} {j : Job}
    {k : ProbeKind} (held : (x.bus ch).job = some j) (fresh : j.stale = false) (kind : j.kind = k.unit) :
    Fits ⟨x.record.timed k, fun ch' => (x.bus ch').stopped⟩ profiles true := by
  obtain ⟨state, -, -, empty, -, -⟩ := h.sole held fresh kind
  have same : (x.record.timed k).state = x.record.state ∧ (x.record.timed k).binding = x.record.binding := by
    cases k <;> exact ⟨rfl, rfl⟩
  obtain ⟨sameState, sameBinding⟩ := same
  have home : (x.record.timed k).home = x.record.home := by rw [RecordView.home, sameBinding]; rfl
  refine ⟨by rw [sameState, sameBinding]; exact h.bound, by rw [sameBinding]; exact h.installed, fun on => ?_, fun on => ?_,
    h.urgentOnce, by rw [sameState, home]; exact h.urgent, h.membersOnce, by rw [sameState, home]; exact h.members,
    fun ch j there fresh => by simp [stale_of_map there] at fresh, fun ch j there kind => ?_, fun _ l there => ?_⟩
  · rw [sameState]
    cases k
    · exact state
    · exact h.retry on
  · rw [sameState]
    cases k
    · exact h.lost on
    · exact state
  · obtain ⟨y, before, rfl⟩ := Option.map_eq_some_iff.mp there
    exact h.single ch y before kind
  · rw [sameState, state] at there
    obtain rfl := memberState_injective there
    have quiet_bus : ∀ ch', ((x.bus ch').stopped).load k = 0 := fun ch' => by
      rw [BusView.load, show ((x.bus ch').stopped).flies k.unit = false from flies_stopped ..,
        show ((x.bus ch').stopped).members = [] from empty ch']
      rfl
    rw [quiet_bus, quiet_bus]
    cases k <;> rfl

/-- R59: the check in flight ends and its member waits again. -/
theorem Fits.returned {x : Standing} {profiles : Vector (Option Profile) 8} (h : Fits x profiles true) {ch : Chan} {j : Job}
    {k : ProbeKind} (held : (x.bus ch).job = some j) (fresh : j.stale = false) (kind : j.kind = k.unit) :
    Fits (Standing.at x ch ⟨(x.bus ch).urgent, [k], none⟩) profiles true := by
  obtain ⟨state, bound, home, empty, -, -⟩ := h.sole held fresh kind
  have own := h.busFits ch
  have there : x.record.home = some ch := by rw [RecordView.home, bound, Option.map_some, home]
  have fits : BusFits x.record profiles ch ⟨(x.bus ch).urgent, [k], none⟩ :=
    ⟨own.urgentOnce, own.urgent, Nat.le_refl 1, fun l listed => List.mem_singleton.mp listed ▸ ⟨state, there⟩,
      fun j there => absurd there.symm (Option.some_ne_none j), fun j there => absurd there.symm (Option.some_ne_none j)⟩
  refine h.at fits fun _ l same => ?_
  obtain rfl := memberState_injective (state.symm.trans same)
  have flies : (x.bus ch).flies k.unit = true := by simp [BusView.flies, held, fresh, kind]
  rw [BusView.load, BusView.load, flies, empty ch]
  simp [BusView.flies, bitN]

/-! ### Marking stale, timers, returned members -/

theorem standing_markStale (s : State) (p : PortId) :
    standing (s.markStale p) p = { standing s p with bus := fun ch => ((standing s p).bus ch).stopped } ∧
    Touches p s (s.markStale p) := by
  have chan : ∀ ch, (s.markStale p).chan ch = { s.chan ch with held := (s.chan ch).held.map (staled p) } := by
    intro ch
    rw [← markStale_eq]
    cases ch <;> rfl
  refine ⟨standing_eq rfl fun ch => ?_, rfl, rfl, fun q other => standing_eq rfl fun ch => ?_⟩
  · rw [chan]
    simp only [busView, jobOf_staled_self]
    rfl
  · rw [chan]
    simp only [busView, jobOf_staled_of_ne _ other]
    rfl

theorem standing_modPort (s : State) (p : PortId) (f : PortRec → PortRec) :
    standing (s.modPort p f) p = { standing s p with record := recordView (f (s.port p)) } ∧ Touches p s (s.modPort p f) := by
  refine ⟨standing_eq (by rw [State.port_modPort_self]) fun ch => rfl, rfl, rfl, fun q other => standing_eq ?_ fun ch => rfl⟩
  rw [State.port_modPort_of_ne _ _ _ _ other]
  rfl

theorem requeue_of_home {s : State} {p : PortId} {b : Binding} (bound : (s.port p).binding = some b) (k : ProbeKind) :
    s.requeue p k =
      s.setChan b.channel { s.chan b.channel with sched := withProbeFirst (s.chan b.channel).sched p k } :=
  requeue_of_binding bound k

/-! ### The end of a job -/

/-- R100: a job ends, having left the part as `u`. -/
theorem supervised_freed {s u : State} (law : Supervised s) {ch : Chan} {j : Job} (held : (s.chan ch).held = some (.job j))
    (touches : Touches j.port s u)
    (own : Fits (Standing.at (standing u j.port) ch ((standing u j.port).bus ch).freed) s.ps.profiles (!s.cu.softResetting)) :
    Supervised (u.modChan ch fun c => { c with held := none }) := by
  have freed : ∀ q, busView { u.chan ch with held := none } q = (busView (u.chan ch) q).freed := fun _ => rfl
  refine (touches.trans (touches_setChan fun q other => ?_)).supervised law ?_
  · have away : ((standing s q).bus ch).job = none := by
      show jobOf (s.chan ch).held q = none
      rw [held]
      exact if_neg (Ne.symm other)
    rw [← touches.others q other] at away
    rw [freed, BusView.freed]
    exact congrArg (BusView.mk _ _) away.symm
  · rw [standing_setChan_at, freed]
    exact own

/-- R53, R61, R63, R89: an outcome that a job of a kind can end with. -/
def Sensible (k : DeviceKind) (o : JobOutcome) : Prop :=
  (k = .probe → o ≠ .markerMismatch) ∧ (k = .presence → o ≠ .markerMismatch ∧ o ≠ .identity ∧ o ≠ .setup)

theorem sensible_of_cut (k : DeviceKind) {o : JobOutcome} (cut : isCut o) : Sensible k o := by
  obtain rfl | rfl := cut
  · exact ⟨fun _ => nofun, fun _ => ⟨nofun, nofun, nofun⟩⟩
  · exact ⟨fun _ => nofun, fun _ => ⟨nofun, nofun, nofun⟩⟩

theorem sensible_good (k : DeviceKind) : Sensible k .good := ⟨fun _ => nofun, fun _ => ⟨nofun, nofun, nofun⟩⟩

theorem sensible_noAnswer (k : DeviceKind) : Sensible k .noAnswer := ⟨fun _ => nofun, fun _ => ⟨nofun, nofun, nofun⟩⟩

/-- What a job's outcome leaves of its port, once the job has ended: a standing in order. -/
def EndsWell (s u : State) (ch : Chan) (p : PortId) : Prop :=
  Touches p s u ∧
    Fits (Standing.at (standing u p) ch ((standing u p).bus ch).freed) s.ps.profiles (!s.cu.softResetting)

/-- R47: a job ends with a transition of its port. -/
theorem endsWell_transition {s u : State} (law : Supervised s) (same : SameStanding s u) {ch : Chan} {p : PortId}
    {new : PortState} (why : Option Reason) {eff : PortRec → PortRec} (binding : ∀ r, (eff r).binding = r.binding)
    (supervisedNow : new ≠ .unbound) (bound : (s.port p).state ≠ .unbound) : EndsWell s (u.transition p new why eff) ch p := by
  have fits : Fits (standing u p) u.ps.profiles (!u.cu.softResetting) := (same.supervised law).ports p
  obtain ⟨own, touches⟩ := standing_transition fits new why eff
  have view : recordView (u.port p) = recordView (s.port p) := congrArg Standing.record (same.standing p)
  have there : (u.port p).binding.isSome = true := fits.bound.trans (decide_eq_true (by
    show (recordView (u.port p)).state ≠ .unbound
    rw [view]
    exact bound))
  have entered : Fits ((standing u p).entered new (eff (u.port p)).binding) s.ps.profiles (!s.cu.softResetting) := by
    rw [← same.profiles, ← same.quiet]
    refine fits_entered fits ?_ ?_
    · rw [binding, there]
      exact (decide_eq_true supervisedNow).symm
    · rw [binding]
      exact fits.installed
  refine ⟨(same.touches p).trans touches, ?_⟩
  rw [own]
  exact entered.freed fun _ k _ => flies_stopped ..

/-- R60, R61: a job ends with what is in flight for its ACTIVE port marked stale. -/
theorem endsWell_markStale {s u : State} (law : Supervised s) (same : SameStanding s u) (ch : Chan) {p : PortId}
    (active : (s.port p).state = .active) : EndsWell s (u.markStale p) ch p := by
  obtain ⟨own, touches⟩ := standing_markStale u p
  refine ⟨(same.touches p).trans touches, ?_⟩
  rw [own, same.standing]
  have stopped := (law.ports p).stopped fun _ k => by
    show (s.port p).state ≠ memberState k
    rw [active]
    cases k <;> decide
  exact stopped.freed fun _ k _ => flies_stopped ..

theorem scanOutcome_markerMismatch (s : State) (p : PortId) : s.scanOutcome p .markerMismatch =
    (s.clearLive p).transition p .probing (some .remoteReset) fun r => { r with attemptCount := 0 } := rfl

theorem probeOutcome_good (s : State) (p : PortId) : s.probeOutcome p .good =
    s.transition p .active (s.port p).reason fun r => { r with missCount := 0, lastGood := some s.stamp } := rfl

theorem probeOutcome_identity (s : State) (p : PortId) : s.probeOutcome p .identity =
    s.transition p .failed (some .identity) id := rfl

theorem presenceOutcome_good (s : State) (p : PortId) : s.presenceOutcome p .good =
    s.transition p .probing (some .present) fun r => { r with attemptCount := 0 } := rfl

section
variable {s : State} (law : Supervised s) {ch : Chan} {j : Job} (held : (s.chan ch).held = some (.job j))
  (fresh : j.stale = false) (quiet : s.cu.softResetting = false)
include law held

/-- A job that is stale or void ends. -/
theorem endsWell_void (void : j.stale = true ∨ s.cu.softResetting = true) : EndsWell s s ch j.port := by
  refine ⟨(SameStanding.refl s).touches _, (law.ports j.port).freed fun q k _ => ?_⟩
  have there : ((standing s j.port).bus ch).job = some j := jobOf_eq_some.mpr ⟨held, rfl⟩
  obtain stale | resetting := void
  · simp [BusView.flies, there, stale]
  · simp [resetting] at q

/-- R60: a scan's job ends. -/
theorem endsWell_scan (state : (s.port j.port).state = .active) (kind : ∀ k : ProbeKind, j.kind ≠ k.unit) (o : JobOutcome) :
    EndsWell s (s.scanOutcome j.port o) ch j.port := by
  have there : ((standing s j.port).bus ch).job = some j := jobOf_eq_some.mpr ⟨held, rfl⟩
  have bound : (s.port j.port).state ≠ .unbound := by rw [state]; decide
  have untouched : EndsWell s s ch j.port :=
    ⟨(SameStanding.refl s).touches _, (law.ports j.port).freed fun _ k _ => by
      simp [BusView.flies, there, kind k]⟩
  cases o
  case good =>
    exact endsWell_markStale law (u := s.modPort j.port fun r => { r with missCount := 0, lastGood := some s.stamp })
      (Observed.sameStanding (observed_modPort (fun _ => rfl) (fun _ => rfl) (fun _ => rfl) (fun _ => rfl))) ch state
  case noAnswer =>
    unfold State.scanOutcome
    dsimp only
    generalize missed : s.modPort j.port (fun r =>
      { r with missCount := if r.missCount < s.pt.missLimit then r.missCount + 1 else r.missCount }) = u
    have counted : Observed s u := missed ▸ observed_modPort (fun _ => rfl) (fun _ => rfl) (fun _ => rfl) (fun _ => rfl)
    split
    · exact endsWell_transition law (counted.sameStanding.trans (observed_clearLive u j.port).sameStanding) _ (fun _ => rfl)
        (by decide) bound
    · exact endsWell_markStale law counted.sameStanding ch state
  case markerMismatch =>
    rw [scanOutcome_markerMismatch]
    exact endsWell_transition law (observed_clearLive s j.port).sameStanding _ (fun _ => rfl) (by decide) bound
  all_goals exact untouched

include fresh

theorem fits_of_fresh : (s.port j.port).state = j.kind.needs :=
  ((law.ports j.port).fresh ch j (jobOf_eq_some.mpr ⟨held, rfl⟩) fresh).2.2.2

include quiet

/-- R58, R62: a check ends with its port's timer started. -/
theorem endsWell_timed {u : State} (same : SameStanding s u) {k : ProbeKind} (kind : j.kind = k.unit) {f : PortRec → PortRec}
    (timer : ∀ r, recordView (f r) = (recordView r).timed k) : EndsWell s ((u.modPort j.port f).markStale j.port) ch j.port := by
  have there : ((standing s j.port).bus ch).job = some j := jobOf_eq_some.mpr ⟨held, rfl⟩
  have fits := law.ports j.port
  rw [quiet] at fits
  obtain ⟨set, touches⟩ := standing_modPort u j.port f
  obtain ⟨own, touches'⟩ := standing_markStale (u.modPort j.port f) j.port
  have view : recordView (u.port j.port) = recordView (s.port j.port) := congrArg Standing.record (same.standing _)
  refine ⟨((same.touches _).trans touches).trans touches', ?_⟩
  rw [own, set, same.standing, timer, view, quiet]
  exact Fits.freed (fits.timed there fresh kind) fun _ l _ => flies_stopped ..

/-- R59: a check ends with its member returned to the front of its queue. -/
theorem endsWell_requeue {k : ProbeKind} (kind : j.kind = k.unit) : EndsWell s (s.requeue j.port k) ch j.port := by
  have there : ((standing s j.port).bus ch).job = some j := jobOf_eq_some.mpr ⟨held, rfl⟩
  have fits := law.ports j.port
  rw [quiet] at fits
  obtain ⟨-, bound, home, empty, -, -⟩ := fits.sole there fresh kind
  have none : (busView (s.chan ch) j.port).members = [] := empty ch
  have own := busView_withProbeFirst_self none k
  rw [requeue_of_home (show (s.port j.port).binding = some j.binding from bound), home]
  refine ⟨touches_setChan fun q other => busView_withProbeFirst_of_ne _ other k, ?_⟩
  have freed := fits.returned there fresh kind
  rw [standing_setChan_at, Standing.bus_at_self, own, quiet]
  refine (congrArg (fun x => Fits x s.ps.profiles true) ?_).mpr freed
  refine congrArg (Standing.mk _) (funext fun ch' => ?_)
  by_cases here : ch' = ch
  · rw [if_pos here, if_pos here]
    rfl
  · rw [if_neg here, if_neg here]
    exact if_neg here

/-- R57: a counted failure ends a probe job. -/
theorem endsWell_probeFailed (kind : j.kind = .probe) (why : Reason) : EndsWell s (s.probeFailed j.port why) ch j.port := by
  have state := fits_of_fresh law held fresh
  rw [kind] at state
  unfold State.probeFailed
  dsimp only
  generalize failed : s.modPort j.port (fun r =>
    { r with attemptCount := if r.attemptCount < s.pt.attemptLimit then r.attemptCount + 1 else r.attemptCount }) = u
  have counted : Observed s u := failed ▸ observed_modPort (fun _ => rfl) (fun _ => rfl) (fun _ => rfl) (fun _ => rfl)
  split
  · exact endsWell_transition law counted.sameStanding _ (fun _ => rfl) (by decide) (by rw [state]; decide)
  · exact endsWell_timed law held fresh quiet counted.sameStanding (k := .probe) kind fun _ => rfl

/-- R53 to R59: a probe job ends. -/
theorem endsWell_probe (kind : j.kind = .probe) {o : JobOutcome} (sensible : o ≠ .markerMismatch) :
    EndsWell s (s.probeOutcome j.port o) ch j.port := by
  have bound : (s.port j.port).state ≠ .unbound := by
    rw [fits_of_fresh law held fresh, kind]
    decide
  have requeued := endsWell_requeue law held fresh quiet (k := .probe) kind
  cases o
  case good =>
    rw [probeOutcome_good]
    exact endsWell_transition law (.refl s) _ (fun _ => rfl) (by decide) bound
  case identity =>
    rw [probeOutcome_identity]
    exact endsWell_transition law (.refl s) _ (fun _ => rfl) (by decide) bound
  case noAnswer => exact endsWell_probeFailed law held fresh quiet kind .noAnswer
  case setup => exact endsWell_probeFailed law held fresh quiet kind .setup
  case busFault => exact requeued
  case aborted => exact requeued
  case markerMismatch => exact absurd rfl sensible

/-- R63: a presence check ends. -/
theorem endsWell_presence (kind : j.kind = .presence) {o : JobOutcome}
    (sensible : o ≠ .markerMismatch ∧ o ≠ .identity ∧ o ≠ .setup) : EndsWell s (s.presenceOutcome j.port o) ch j.port := by
  have bound : (s.port j.port).state ≠ .unbound := by
    rw [fits_of_fresh law held fresh, kind]
    decide
  have requeued := endsWell_requeue law held fresh quiet (k := .presence) kind
  obtain ⟨marker, identity, setup⟩ := sensible
  cases o
  case good =>
    rw [presenceOutcome_good]
    exact endsWell_transition law (.refl s) _ (fun _ => rfl) (by decide) bound
  case noAnswer =>
    exact endsWell_timed law held fresh quiet (.refl s) (k := .presence) kind
      (f := fun r => { r with lostCheck := some s.pt.lostInterval }) fun _ => rfl
  case busFault => exact requeued
  case aborted => exact requeued
  case markerMismatch => exact absurd rfl marker
  case identity => exact absurd rfl identity
  case setup => exact absurd rfl setup

end

/-- R53, R60, R63: an outcome goes to the Port Table by the job's kind. -/
theorem jobOutcome_of_fresh {s : State} {j : Job} (fresh : j.stale = false) (quiet : s.cu.softResetting = false)
    (state : (s.port j.port).state = j.kind.needs) (o : JobOutcome) :
    (j.kind = .probe → s.jobOutcome j o = s.probeOutcome j.port o) ∧
    (j.kind = .presence → s.jobOutcome j o = s.presenceOutcome j.port o) ∧
    (j.kind = .urgent ∨ j.kind = .regular → s.jobOutcome j o = s.scanOutcome j.port o) := by
  have taken : ¬(j.stale || s.cu.softResetting || decide ((s.port j.port).state ≠ j.kind.needs)) = true := by
    simp [fresh, quiet, state]
  refine ⟨fun kind => ?_, fun kind => ?_, fun kind => ?_⟩
  · rw [State.jobOutcome, if_neg taken, kind]
  · rw [State.jobOutcome, if_neg taken, kind]
  · rw [State.jobOutcome, if_neg taken]
    obtain kind | kind := kind <;> rw [kind]

theorem jobOutcome_of_void {s : State} {j : Job} (void : j.stale = true ∨ s.cu.softResetting = true) (o : JobOutcome) :
    s.jobOutcome j o = s := by
  refine if_pos ?_
  obtain stale | resetting := void
  · simp [stale]
  · simp [resetting]

theorem endsWell_jobOutcome {s : State} (law : Supervised s) {ch : Chan} {j : Job} (held : (s.chan ch).held = some (.job j))
    {o : JobOutcome} (sensible : Sensible j.kind o) : EndsWell s (s.jobOutcome j o) ch j.port := by
  by_cases void : j.stale = true ∨ s.cu.softResetting = true
  · rw [jobOutcome_of_void void]
    exact endsWell_void law held void
  · have fresh : j.stale = false := by simpa using fun stale => void (.inl stale)
    have quiet : s.cu.softResetting = false := by simpa using fun resetting => void (.inr resetting)
    have state := fits_of_fresh law held fresh
    obtain ⟨probe, presence, scan⟩ := jobOutcome_of_fresh fresh quiet state o
    have scanned (kind : j.kind = .urgent ∨ j.kind = .regular) : EndsWell s (s.jobOutcome j o) ch j.port := by
      rw [scan kind]
      obtain kind | kind := kind
      · exact endsWell_scan law held (by rw [state, kind]; rfl) (fun k => by rw [kind]; cases k <;> decide) o
      · exact endsWell_scan law held (by rw [state, kind]; rfl) (fun k => by rw [kind]; cases k <;> decide) o
    cases kind : j.kind with
    | probe =>
      rw [probe kind]
      exact endsWell_probe law held fresh quiet kind (sensible.1 kind)
    | presence =>
      rw [presence kind]
      exact endsWell_presence law held fresh quiet kind (sensible.2 kind)
    | urgent => exact scanned (.inl kind)
    | regular => exact scanned (.inr kind)

/-- R100: the end of a job keeps the supervision. -/
theorem supervised_endJob {s : State} (law : Supervised s) {ch : Chan} {j : Job} (held : (s.chan ch).held = some (.job j))
    {o : JobOutcome} (sensible : Sensible j.kind o) : Supervised (s.endJob ch j o) :=
  have ends := endsWell_jobOutcome law held sensible
  supervised_freed law held ends.1 ends.2

end Sys2Proof.Laws
end

section
/-! PROOFS. The frames, pieces and units of a channel leave the ports supervised (R53, R64, R100, R129, R133). -/
namespace Sys2Proof.Laws

open Sys2Proof.Machine Sys2Proof.Safety

/-! ### Channels that change without their places -/

theorem busView_of_same {c d : Channel} {q : PortId} (urgent : d.sched.urgent = c.sched.urgent)
    (probes : d.sched.probes = c.sched.probes) (job : jobOf d.held q = jobOf c.held q) : busView d q = busView c q := by
  simp only [busView, urgent, probes, job]

/-- A channel changed without its queues of the Scan Scheduler and its unit. -/
theorem sameStanding_modChan {s : State} {ch : Chan} {f : Channel → Channel}
    (urgent : (f (s.chan ch)).sched.urgent = (s.chan ch).sched.urgent)
    (probes : (f (s.chan ch)).sched.probes = (s.chan ch).sched.probes) (held : (f (s.chan ch)).held = (s.chan ch).held) :
    SameStanding s (s.modChan ch f) :=
  sameStanding_setChan fun q => busView_of_same urgent probes (by rw [held])

theorem sameStanding_modSched {s : State} {ch : Chan} {f : Scheduler → Scheduler}
    (urgent : (f (s.chan ch).sched).urgent = (s.chan ch).sched.urgent)
    (probes : (f (s.chan ch).sched).probes = (s.chan ch).sched.probes) : SameStanding s (s.modSched ch f) :=
  sameStanding_modChan (f := fun c => { c with sched := f c.sched }) urgent probes rfl

/-- A part replaced whose records, channels and profiles are those of `s`. -/
theorem sameStanding_of_same {s t : State} (pt : t.pt = s.pt) (ch0 : t.ch0 = s.ch0) (ch1 : t.ch1 = s.ch1)
    (profiles : t.ps.profiles = s.ps.profiles) (quiet : t.cu.softResetting = s.cu.softResetting) : SameStanding s t := by
  have chan : ∀ ch, t.chan ch = s.chan ch := fun ch => match ch with
    | .ch0 => ch0
    | .ch1 => ch1
  exact ⟨profiles, quiet, fun q => standing_eq (by simp only [State.port, pt]; rfl) fun ch => by rw [chan]; rfl⟩

/-! ### Host units -/

/-- No job holds a channel. -/
def NoJob (c : Channel) : Prop := ∀ q, jobOf c.held q = none

theorem noJob_of_host {c : Channel} {r : HostRun} (held : c.held = some (.host r)) : NoJob c := fun q => by rw [held]; rfl

theorem noJob_of_free {c : Channel} (held : c.held = none) : NoJob c := fun q => by rw [held]; rfl

theorem sameStanding_endHost {s : State} {ch : Chan} (none : NoJob (s.chan ch)) (l : List Completion) :
    SameStanding s (s.endHost ch l) := by
  have placed : SameStanding s { s with ht := { s.ht with completions := s.ht.completions ++ l } } :=
    sameStanding_of_same rfl rfl rfl rfl rfl
  refine placed.trans (sameStanding_setChan fun q => busView_of_same rfl rfl ?_)
  rw [State.chan_with_ht]
  exact (none q).symm

theorem sameStanding_runHost {s : State} {ch : Chan} (none : NoJob (s.chan ch)) (r : HostRun) :
    SameStanding s (s.modChan ch fun c => c.runHost r) :=
  sameStanding_setChan fun q => busView_of_same rfl rfl (none q).symm

theorem sameStanding_hostProceed {s : State} {ch : Chan} (none : NoJob (s.chan ch)) (done : List Completion)
    (todo : List HostTxn) : SameStanding s (s.hostProceed ch done todo) := by
  obtain ⟨l, ended⟩ | ⟨r, runs⟩ := hostProceed_cases s ch done todo
  · rw [ended]
    exact sameStanding_endHost none l
  · rw [runs]
    exact sameStanding_runHost none r

theorem sameStanding_hostFrameEnd {s : State} {ch : Chan} {r : HostRun} (held : (s.chan ch).held = some (.host r))
    (res : FrameResult) : SameStanding s (s.hostFrameEnd ch r res) := by
  unfold State.hostFrameEnd
  dsimp only
  split
  · have absorbed := observed_absorb s ch r.current (r.current.advance res).1
    exact absorbed.sameStanding.trans (sameStanding_hostProceed (by rw [absorbed.chan]; exact noJob_of_host held) ..)
  · exact sameStanding_runHost (noJob_of_host held) _

/-! ### Jobs -/

/-- R85: the next frame or piece of a job. -/
theorem supervised_runJob {s : State} (law : Supervised s) {ch : Chan} {j j' : Job} (held : (s.chan ch).held = some (.job j))
    (port : j'.port = j.port) (kind : j'.kind = j.kind) (stale : j'.stale = j.stale) (binding : j'.binding = j.binding)
    (profile : j'.profile = j.profile) (single : j.kind = .presence → j'.current = .presence ∧ j'.todo = []) :
    Supervised (s.modChan ch fun c => c.runJob j') := by
  have own : busView ((s.chan ch).runJob j') j.port = { busView (s.chan ch) j.port with job := some j' } :=
    congrArg (BusView.mk _ _) (jobOf_eq_some.mpr ⟨rfl, port⟩)
  have touches : Touches j.port s (s.modChan ch fun c => c.runJob j') := touches_setChan fun q other =>
    busView_of_same rfl rfl (by
      rw [held]
      exact (if_neg (port ▸ Ne.symm other)).trans (if_neg (Ne.symm other)).symm)
  refine touches.supervised law ?_
  rw [State.modChan, standing_setChan_at, own]
  exact (law.ports j.port).renewed (jobOf_eq_some.mpr ⟨held, rfl⟩) kind stale binding profile single

/-- R53 to R55, R61: the outcome of a piece. -/
theorem sensible_verdict {j : Job} {a : Access} {o : JobOutcome} (verdict : j.verdict a = some o)
    (single : j.kind = .presence → j.current = .presence) : Sensible j.kind o := by
  unfold Job.verdict at verdict
  split at verdict
  · obtain rfl := Option.some.inj verdict
    exact sensible_of_cut _ (.inr rfl)
  · split at verdict
    · obtain rfl := Option.some.inj verdict
      exact sensible_noAnswer _
    · split at verdict
      · next low =>
        split at verdict
        · obtain rfl := Option.some.inj verdict
          exact ⟨fun _ => nofun, fun presence => absurd (low.symm.trans (single presence)) (by decide)⟩
        · simp at verdict
      · next marker =>
        split at verdict
        · simp at verdict
        · obtain rfl := Option.some.inj verdict
          refine ⟨fun probe => by rw [if_pos probe]; decide, fun presence => absurd (marker.symm.trans (single presence)) (by decide)⟩
      · simp at verdict

theorem jobOutcome_kept (s : State) (j : Job) (a : Access) (o : JobOutcome) : s.jobOutcome (j.kept a) o = s.jobOutcome j o := by
  unfold Job.kept
  split <;> rfl

/-- R64, R85, R86: the end of a frame of a job keeps the supervision. -/
theorem supervised_jobFrameEnd {s : State} (law : Supervised s) {ch : Chan} {j : Job} (held : (s.chan ch).held = some (.job j))
    (res : FrameResult) : Supervised (s.jobFrameEnd ch j res) := by
  have single := (law.ports j.port).single ch j (jobOf_eq_some.mpr ⟨held, rfl⟩)
  unfold State.jobFrameEnd
  dsimp only
  split
  · have read := observed_pieceResult s j (j.advance res).1
    have law' := read.sameStanding.supervised law
    have held' : ((s.pieceResult j (j.advance res).1).chan ch).held = some (.job j) := by rw [read.chan, held]
    unfold State.pieceEnd
    dsimp only
    split
    · next o verdict => exact supervised_endJob law' held' (sensible_verdict verdict fun presence => (single presence).1)
    · unfold State.continueJob
      split
      · rw [State.endJob, jobOutcome_kept]
        exact supervised_endJob law' held' (sensible_good _)
      · next x rest todo =>
        have kept : (j.kept (j.advance res).1).port = j.port ∧ (j.kept (j.advance res).1).kind = j.kind ∧
            (j.kept (j.advance res).1).stale = j.stale ∧ (j.kept (j.advance res).1).binding = j.binding ∧
            (j.kept (j.advance res).1).profile = j.profile ∧ (j.kept (j.advance res).1).todo = j.todo := by
          unfold Job.kept
          split <;> exact ⟨rfl, rfl, rfl, rfl, rfl, rfl⟩
        obtain ⟨port, kind, stale, binding, profile, same⟩ := kept
        refine supervised_runJob law' held' port kind stale binding profile fun presence => ?_
        rw [same, (single presence).2] at todo
        simp at todo
  · exact supervised_runJob law held rfl rfl rfl rfl rfl single

/-! ### Units -/

theorem supervised_unitFrameEnd {s : State} (law : Supervised s) (ch : Chan) (res : FrameResult) :
    Supervised (s.unitFrameEnd ch res) := by
  unfold State.unitFrameEnd
  split
  · exact law
  · next held => exact supervised_jobFrameEnd law held res
  · next held => exact (sameStanding_hostFrameEnd held res).supervised law

/-- R59, R110, R117: a unit cut short. -/
theorem supervised_cutUnit {s : State} (law : Supervised s) (ch : Chan) {o : JobOutcome} (cut : isCut o) (res : HostResult) :
    Supervised (s.cutUnit ch o res) := by
  unfold State.cutUnit
  split
  · exact law
  · next held => exact supervised_endJob law held (sensible_of_cut _ cut)
  · next held => exact (sameStanding_endHost (noJob_of_host held) _).supervised law

theorem supervised_abortFrameEnd {s : State} (law : Supervised s) (ch : Chan) (res : FrameResult) :
    Supervised (s.abortFrameEnd ch res) := by
  unfold State.abortFrameEnd
  split
  · exact law
  · next j held =>
    have read : Observed s (if (j.advance res).2 = true then s.pieceResult j (j.advance res).1 else s) := by
      split
      · exact observed_pieceResult ..
      · exact .refl s
    exact supervised_endJob (read.sameStanding.supervised law) (by rw [read.chan, held]) (sensible_of_cut _ (.inr rfl))
  · next r held =>
    dsimp only
    split
    · have absorbed := observed_absorb s ch r.current (r.current.advance res).1
      exact (absorbed.sameStanding.trans (sameStanding_endHost (by rw [absorbed.chan]; exact noJob_of_host held) _)).supervised law
    · exact supervised_cutUnit law ch (.inr rfl) _

end Sys2Proof.Laws
end

section
/-! PROOFS. The decisions of an arbiter leave the ports supervised (R74, R75, R84, R95 to R99). -/
namespace Sys2Proof.Laws

open Sys2Proof.Machine Sys2Proof.Safety

/-- A channel replaced by one whose places are in order and whose probe queue and unit are the same. -/
theorem supervised_urgent {s : State} (law : Supervised s) {ch : Chan} {c : Channel} (once : c.sched.urgent.Nodup)
    (active : ∀ p ∈ c.sched.urgent, (s.port p).activeOn ch = true) (probes : c.sched.probes = (s.chan ch).sched.probes)
    (held : c.held = (s.chan ch).held) : Supervised (s.setChan ch c) := by
  have view : ∀ q, busView c q = { busView (s.chan ch) q with urgent := c.sched.urgent.count q } := fun q => by
    simp only [busView, probes, held]
  refine ⟨by rw [State.setChan_ps]; exact law.plan, fun q => ?_⟩
  rw [standing_setChan_at, State.setChan_ps, State.setChan_cu, view]
  have own := (law.ports q).busFits ch
  have fits : BusFits (standing s q).record s.ps.profiles ch { busView (s.chan ch) q with urgent := c.sched.urgent.count q } :=
    ⟨List.nodup_iff_count_le_one.mp once q, fun there => (activeOn_iff_home ..).mp (active q (List.count_pos_iff.mp there)),
      own.membersOnce, own.members, own.fresh, own.single⟩
  exact (law.ports q).at fits fun _ _ _ => rfl

/-! ### Consultations -/

/-- R83: the ports of an urgent queue are there once and ACTIVE on its channel. -/
def UrgentFits (s : State) (ch : Chan) (l : List PortId) : Prop := l.Nodup ∧ ∀ p ∈ l, (s.port p).activeOn ch = true

theorem Supervised.urgentFits {s : State} (law : Supervised s) (ch : Chan) : UrgentFits s ch (s.chan ch).sched.urgent :=
  ⟨(law.queueLaw ch).urgentOnce, (law.queueLaw ch).urgent⟩

theorem nodup_addedOnce {queue : List PortId} (once : queue.Nodup) (ports : List PortId) : (addedOnce queue ports).Nodup := by
  induction ports generalizing queue with
  | nil => exact once
  | cons p ports ih =>
    unfold addedOnce
    rw [List.foldl_cons]
    refine ih ?_
    split
    · exact once
    · next absent => exact List.nodup_append.mpr ⟨once, List.nodup_singleton p, fun a there b here same =>
        absent (by rw [← List.mem_singleton.mp here, ← same]; exact there)⟩

theorem UrgentFits.added {s : State} {ch : Chan} {l : List PortId} (h : UrgentFits s ch l) {ports : List PortId}
    (active : ∀ p ∈ ports, (s.port p).activeOn ch = true) : UrgentFits s ch (addedOnce l ports) :=
  ⟨nodup_addedOnce h.1 ports, fun p there => (mem_addedOnce.mp there).elim (h.2 p) (active p)⟩

theorem activeOn_of_linePorts {s : State} {ch : Chan} {lines : BitVec 4} {p : PortId} (h : p ∈ linePorts s ch lines) :
    (s.port p).activeOn ch = true := by
  obtain ⟨n, -, there⟩ := List.mem_flatMap.mp h
  have kept := (List.mem_filter.mp there).2
  simp only [Bool.and_eq_true] at kept
  exact kept.2

/-- R96: what a consultation leaves of a scheduler, and where its source stands. -/
structure Finds (s : State) (ch : Chan) (c d : Scheduler) (x : Option Source) : Prop where
  probes : d.probes = c.probes
  urgent : UrgentFits s ch d.urgent
  source : ∀ k p, x = some (k, p) →
    (∃ l rest, k = l.unit ∧ d.probes = (p, l) :: rest) ∨ (k = .urgent ∧ ∃ rest, d.urgent = p :: rest) ∨
      (k = .regular ∧ (s.port p).activeOn ch = true)

theorem finds_nothing {s : State} {ch : Chan} {c d : Scheduler} (probes : d.probes = c.probes) (urgent : UrgentFits s ch d.urgent) :
    Finds s ch c d none := ⟨probes, urgent, fun _ _ none => absurd none.symm (Option.some_ne_none _)⟩

theorem activeOn_of_walkFrom {s : State} {ch : Chan} {p : PortId} (l : List PortId) (n : Nat)
    (found : (s.walkFrom ch l n).2 = some p) : (s.port p).activeOn ch = true := by
  induction l generalizing n with
  | nil => exact absurd found.symm (Option.some_ne_none p)
  | cons q l ih =>
    unfold State.walkFrom at found
    split at found
    · next active => exact Option.some.inj found ▸ active
    · exact ih _ found

/-- R74: a walk moves the position alone, and finds an eligible entry. -/
theorem walk_keeps (s : State) (ch : Chan) (c : Scheduler) :
    (s.walk ch c).1.probes = c.probes ∧ (s.walk ch c).1.urgent = c.urgent ∧
    ∀ p, (s.walk ch c).2 = some p → (s.port p).activeOn ch = true := by
  unfold State.walk
  split
  · exact ⟨rfl, rfl, fun p none => absurd none.symm (Option.some_ne_none p)⟩
  · exact ⟨rfl, rfl, fun p found => activeOn_of_walkFrom _ _ found⟩

/-- R75: the end of a walk adds the ports of the active attention lines. -/
theorem endWalk_keeps (s : State) (ch : Chan) {c : Scheduler} (urgent : UrgentFits s ch c.urgent) :
    (c.endWalk (s.passEndPorts ch)).probes = c.probes ∧ UrgentFits s ch (c.endWalk (s.passEndPorts ch)).urgent := by
  have added : UrgentFits s ch (addedOnce c.urgent (s.passEndPorts ch)) := urgent.added fun p there => by
    rw [State.passEndPorts, attentionPorts_eq] at there
    exact activeOn_of_linePorts there
  unfold Scheduler.endWalk
  rw [foldl_pushUrgent]
  dsimp only
  split
  · split <;> exact ⟨rfl, added⟩
  · exact ⟨rfl, added⟩

theorem finds_consultAgain (s : State) (ch : Chan) {c : Scheduler} (urgent : UrgentFits s ch c.urgent) :
    Finds s ch c (s.consultAgain ch c).1 (s.consultAgain ch c).2 := by
  obtain ⟨probes, same, entry⟩ := walk_keeps s ch c
  unfold State.consultAgain
  split
  · next p rest head =>
    refine ⟨rfl, urgent, fun k q found => .inr (.inl ?_)⟩
    obtain ⟨rfl, rfl⟩ := Prod.mk.inj (Option.some.inj found)
    exact ⟨rfl, rest, head⟩
  · split
    · exact finds_nothing rfl urgent
    · split
      · next d p walked =>
        rw [walked] at probes same entry
        refine ⟨probes, same ▸ urgent, fun k q found => .inr (.inr ?_)⟩
        obtain ⟨rfl, rfl⟩ := Prod.mk.inj (Option.some.inj found)
        exact ⟨rfl, entry p rfl⟩
      · next d walked =>
        rw [walked] at probes same
        obtain ⟨kept, fits⟩ := endWalk_keeps s ch (c := d) (same ▸ urgent)
        exact finds_nothing (kept.trans probes) fits

theorem finds_consult {s : State} {ch : Chan} (law : Supervised s) :
    Finds s ch (s.chan ch).sched (s.consult ch).1 (s.consult ch).2 := by
  have urgent := law.urgentFits ch
  obtain ⟨probes, same, entry⟩ := walk_keeps s ch (s.chan ch).sched
  unfold State.consult
  dsimp only
  split
  · next p l rest head =>
    refine ⟨rfl, urgent, fun k q found => .inl ?_⟩
    obtain ⟨rfl, rfl⟩ := Prod.mk.inj (Option.some.inj found)
    exact ⟨l, rest, rfl, head⟩
  · split
    · next p rest head =>
      refine ⟨rfl, urgent, fun k q found => .inr (.inl ?_)⟩
      obtain ⟨rfl, rfl⟩ := Prod.mk.inj (Option.some.inj found)
      exact ⟨rfl, rest, head⟩
    · split
      · exact finds_nothing rfl urgent
      · split
        · next d p walked =>
          rw [walked] at probes same entry
          refine ⟨probes, same ▸ urgent, fun k q found => .inr (.inr ?_)⟩
          obtain ⟨rfl, rfl⟩ := Prod.mk.inj (Option.some.inj found)
          exact ⟨rfl, entry p rfl⟩
        · next d walked =>
          rw [walked] at probes same
          obtain ⟨kept, fits⟩ := endWalk_keeps s ch (c := d) (same ▸ urgent)
          obtain ⟨again, urgent', source⟩ := finds_consultAgain s ch fits
          exact ⟨again.trans (kept.trans probes), urgent', source⟩

theorem supervised_consulted {s : State} (law : Supervised s) (ch : Chan) : Supervised (consulted s ch) := by
  have found := finds_consult (ch := ch) law
  exact supervised_urgent law (c := { s.chan ch with sched := (s.consult ch).1 }) found.urgent.1 found.urgent.2 found.probes rfl

/-! ### Grants -/

/-- R39, R53, R62: the job of a grant: a port of an installed profile with a plan always gives one. -/
theorem composed {s : State} (law : Supervised s) (k : DeviceKind) {p : PortId} (bound : (s.port p).state ≠ .unbound) :
    ∃ j, s.composeJob k p = some j ∧ j.port = p ∧ j.kind = k ∧ j.stale = false ∧ (s.port p).binding = some j.binding ∧
      s.ps.profiles[j.binding.profile] = some j.profile ∧ (k = .presence → j.current = .presence ∧ j.todo = []) := by
  have fits := law.ports p
  obtain ⟨b, binding⟩ := Option.isSome_iff_exists.mp (fits.bound.trans (decide_eq_true bound))
  obtain ⟨f, installed⟩ := Option.isSome_iff_exists.mp (fits.installed b binding)
  have plan := law.plan b.profile f installed
  obtain ⟨e, rest, planned⟩ := List.exists_cons_of_ne_nil plan
  have pieces : ∃ x rest, f.pieces k = x :: rest ∧ (k = .presence → x.kind = .presence ∧ rest = []) := by
    have fetches : f.fetchPieces ≠ [] := by simp [Profile.fetchPieces, planned]
    cases k with
    | presence =>
      unfold Profile.pieces Profile.presencePieces
      cases f.identity with
      | some i => exact ⟨_, _, rfl, fun _ => ⟨rfl, rfl⟩⟩
      | none =>
        rw [planned]
        exact ⟨_, _, rfl, fun _ => ⟨rfl, rfl⟩⟩
    | probe =>
      obtain ⟨x, rest, there⟩ := List.exists_cons_of_ne_nil (show f.pieces .probe ≠ [] by simp [Profile.pieces, fetches])
      exact ⟨x, rest, there, nofun⟩
    | urgent =>
      obtain ⟨x, rest, there⟩ := List.exists_cons_of_ne_nil (show f.pieces .urgent ≠ [] by simp [Profile.pieces, fetches])
      exact ⟨x, rest, there, nofun⟩
    | regular =>
      obtain ⟨x, rest, there⟩ := List.exists_cons_of_ne_nil (show f.pieces .regular ≠ [] by simp [Profile.pieces, fetches])
      exact ⟨x, rest, there, nofun⟩
  obtain ⟨x, rest, there, single⟩ := pieces
  exact ⟨_, composeJob_eq (show (s.port p).binding = some b from binding) installed there, rfl, rfl, rfl, binding, installed,
    single⟩

/-- R84: a unit of the device side takes its member or entry and its job flies. -/
theorem supervised_granted {s : State} (law : Supervised s) {ch : Chan} (free : (s.chan ch).held = none) {j : Job} {c : Channel}
    (held : c.held = some (.job j)) (fresh : j.stale = false) (home : (s.port j.port).onChannel ch = true)
    (binding : (s.port j.port).binding = some j.binding) (profile : s.ps.profiles[j.binding.profile] = some j.profile)
    (state : (s.port j.port).state = j.kind.needs) (single : j.kind = .presence → j.current = .presence ∧ j.todo = [])
    (others : ∀ q, q ≠ j.port → busView { c with held := none } q = busView (s.chan ch) q)
    (urgent : (busView c j.port).urgent ≤ (busView (s.chan ch) j.port).urgent)
    (members : (busView c j.port).members = [] ∧ (∃ k : ProbeKind, j.kind = k.unit ∧ k ∈ (busView (s.chan ch) j.port).members) ∨
      (busView c j.port).members = (busView (s.chan ch) j.port).members ∧ ∀ k : ProbeKind, j.kind ≠ k.unit) :
    Supervised (s.setChan ch c) := by
  have touches : Touches j.port s (s.setChan ch c) := touches_setChan fun q other => by
    rw [← others q other]
    exact busView_of_same rfl rfl (by rw [held]; exact if_neg (Ne.symm other))
  refine touches.supervised law ?_
  rw [standing_setChan_at]
  have flying : (busView c j.port).job = some j := jobOf_eq_some.mpr ⟨held, rfl⟩
  have before : (busView (s.chan ch) j.port).job = none := by
    show jobOf (s.chan ch).held j.port = none
    rw [free]
    rfl
  have own := (law.ports j.port).busFits ch
  have there : j.binding.channel = ch := by
    have := (home_iff ..).mpr home
    rw [RecordView.home, show (recordView (s.port j.port)).binding = some j.binding from binding] at this
    exact Option.some.inj this
  have fits : BusFits (standing s j.port).record s.ps.profiles ch (busView c j.port) := by
    refine ⟨urgent.trans own.urgentOnce, fun waits => own.urgent (Nat.lt_of_lt_of_le waits urgent), ?_, fun k listed => ?_,
      fun i same _ => ?_, fun i same kind => ?_⟩
    · obtain ⟨empty, -⟩ | ⟨same, -⟩ := members
      · rw [empty]
        exact Nat.zero_le 1
      · rw [same]
        exact own.membersOnce
    · obtain ⟨empty, -⟩ | ⟨same, -⟩ := members
      · rw [empty] at listed
        exact absurd listed List.not_mem_nil
      · rw [same] at listed
        exact own.members k listed
    · obtain rfl := Option.some.inj (flying.symm.trans same)
      exact ⟨binding, there, profile, state⟩
    · obtain rfl := Option.some.inj (flying.symm.trans same)
      exact single kind
  refine (law.ports j.port).at fits fun _ k needs => ?_
  have flies : (busView c j.port).flies k.unit = decide (j.kind = k.unit) := by simp [BusView.flies, flying, fresh]
  have idle : ((standing s j.port).bus ch).flies k.unit = false := by
    show (busView (s.chan ch) j.port).flies k.unit = false
    simp [BusView.flies, before]
  rw [BusView.load, BusView.load, flies, idle]
  obtain ⟨empty, l, kind, listed⟩ | ⟨same, other⟩ := members
  · have same : memberState l = memberState k := by
      rw [← needs_unit, ← kind, ← state]
      exact needs
    obtain rfl := memberState_injective same
    rw [empty, kind, show decide (l ∈ ((standing s j.port).bus ch).members) = true from decide_eq_true listed]
    simp [bitN]
  · rw [same, decide_eq_false (other k)]
    rfl

theorem busView_ext {c d : Channel} {q : PortId} (urgent : d.sched.urgent.count q = c.sched.urgent.count q)
    (members : (busView d q).members = (busView c q).members) (job : jobOf d.held q = jobOf c.held q) :
    busView d q = busView c q := by
  show BusView.mk (d.sched.urgent.count q) (busView d q).members (jobOf d.held q) = busView c q
  rw [urgent, members, job]
  rfl

/-- R84: the places on a probe queue once its head has been taken. -/
theorem members_of_head {c : Channel} {p : PortId} {k : ProbeKind} {rest : List (PortId × ProbeKind)}
    (head : c.sched.probes = (p, k) :: rest) :
    (∀ q, q ≠ p → (busView c q).members = (rest.filter fun m => decide (m.1 = q)).map Prod.snd) ∧
    (busView c p).members = k :: (rest.filter fun m => decide (m.1 = p)).map Prod.snd := by
  simp only [busView, head]
  refine ⟨fun q other => ?_, ?_⟩
  · rw [List.filter_cons_of_neg (by simpa using Ne.symm other)]
  · rw [List.filter_cons_of_pos (by simp), List.map_cons]

theorem supervised_grantDevice {s : State} (law : Supervised s) {ch : Chan} (free : (s.chan ch).held = none) {k : DeviceKind}
    {p : PortId} {c : Scheduler} (found : Finds s ch c (s.chan ch).sched (some (k, p))) : Supervised (s.grantDevice ch (k, p)) := by
  have queue := law.queueLaw ch
  have source := found.source k p rfl
  have stands : (s.port p).state = k.needs ∧ (s.port p).onChannel ch = true := by
    obtain ⟨l, rest, rfl, head⟩ | ⟨rfl, rest, head⟩ | ⟨rfl, active⟩ := source
    · obtain ⟨state, home⟩ := queue.probes (p, l) (by rw [head]; exact List.mem_cons_self)
      exact ⟨state.trans (needs_unit l).symm, home⟩
    · have active := queue.urgent p (by rw [head]; exact List.mem_cons_self)
      rw [PortRec.activeOn, Bool.and_eq_true, decide_eq_true_eq] at active
      exact active
    · rw [PortRec.activeOn, Bool.and_eq_true, decide_eq_true_eq] at active
      exact active
  obtain ⟨state, home⟩ := stands
  obtain ⟨j, job, rfl, rfl, fresh, binding, profile, single⟩ := composed law k (p := p) (by
    rw [state]
    cases k <;> decide)
  have granted : s.grantDevice ch (j.kind, j.port) =
      s.setChan ch ({ s.chan ch with
        sched := (s.chan ch).sched.takeSource j.kind, hostTurn := (s.chan ch).hostWeight }.runJob j) := by
    simp only [State.grantDevice, job]
    rfl
  rw [granted]
  obtain ⟨l, rest, kind, head⟩ | ⟨kind, rest, head⟩ | ⟨kind, -⟩ := source
  · obtain ⟨others, own⟩ := members_of_head head
    have taken : (s.chan ch).sched.takeSource j.kind = { (s.chan ch).sched with probes := rest } := by
      rw [kind]
      cases l <;> simp only [ProbeKind.unit, Scheduler.takeSource, head, List.tail_cons]
    rw [taken]
    refine supervised_granted law free (j := j) rfl fresh home binding profile state single (fun q other => ?_) (Nat.le_refl _)
      (.inl ⟨?_, l, kind, mem_members.mpr (by rw [head]; exact List.mem_cons_self)⟩)
    · exact busView_ext rfl (others q other).symm (by rw [free])
    · have once := (law.ports j.port).membersOnce ch
      have longer : (busView (s.chan ch) j.port).members.length ≤ 1 := once
      rw [own] at longer
      exact List.eq_nil_of_length_eq_zero (Nat.le_zero.mp (Nat.le_of_succ_le_succ longer))
  · have taken : (s.chan ch).sched.takeSource j.kind = { (s.chan ch).sched with urgent := rest } := by
      rw [kind]
      simp only [Scheduler.takeSource, head, List.tail_cons]
    rw [taken]
    refine supervised_granted law free (j := j) rfl fresh home binding profile state single (fun q other => ?_) ?_
      (.inr ⟨rfl, fun l => by rw [kind]; cases l <;> decide⟩)
    · have count : rest.count q = (s.chan ch).sched.urgent.count q := by rw [head, List.count_cons_of_ne (Ne.symm other)]
      exact busView_ext count rfl (by rw [free])
    · show rest.count j.port ≤ (s.chan ch).sched.urgent.count j.port
      rw [head]
      exact List.count_le_count_cons
  · have taken : (s.chan ch).sched.takeSource j.kind =
        { (s.chan ch).sched with
          pass := (s.chan ch).sched.pass.map fun q => { q with position := q.position + 1 } } := by
      rw [kind]
      rfl
    rw [taken]
    refine supervised_granted law free (j := j) rfl fresh home binding profile state single (fun q other => ?_) (Nat.le_refl _)
      (.inr ⟨rfl, fun l => by rw [kind]; cases l <;> decide⟩)
    exact busView_of_same rfl rfl (by rw [free])

end Sys2Proof.Laws
end

section
/-! PROOFS. Notices, ends of drains, resets and the events of a frame leave the ports supervised (R95, R110 to R120, R184,
R190). -/
namespace Sys2Proof.Laws

open Sys2Proof.Machine Sys2Proof.Safety

/-! ### Notices -/

/-- R96: what a consultation finds stands in the part that it leaves. -/
theorem Finds.consulted {s : State} {ch : Chan} {c : Scheduler} {x : Option Source} (h : Finds s ch c (s.consult ch).1 x) :
    Finds (consulted s ch) ch c ((consulted s ch).chan ch).sched x := by
  have port : ∀ p, (Laws.consulted s ch).port p = s.port p := fun p => State.port_modSched ..
  rw [chan_consulted]
  exact ⟨h.probes, ⟨h.urgent.1, fun p there => by rw [port]; exact h.urgent.2 p there⟩,
    fun k p found => by rw [port]; exact h.source k p found⟩

/-- R95 to R99: one decision. -/
theorem supervised_decision (ch : Chan) (s : State) (law : Supervised s) (may : s.mayDecide ch = true) :
    Supervised (s.decideOnce ch).1 := by
  obtain ⟨-, held, -⟩ := (mayDecide_iff s ch).1 may
  have free : ((consulted s ch).chan ch).held = none := by
    rw [chan_consulted]
    exact held
  have law' := supervised_consulted law ch
  obtain ⟨-, -, stays⟩ | ⟨⟨k, p⟩, source, granted⟩ | ⟨u, rest, -, -, granted⟩ := decideOnce_cases s ch
  · rw [stays]
    exact law'
  · rw [granted]
    have found := finds_consult (ch := ch) law
    rw [source] at found
    exact supervised_grantDevice law' free found.consulted
  · rw [granted]
    have taken : SameStanding (consulted s ch) ((consulted s ch).modChan ch fun c => hostGranted c rest) :=
      sameStanding_modChan rfl rfl rfl
    refine (taken.trans (sameStanding_hostProceed (noJob_of_free ?_) [] u)).supervised law'
    rw [State.chan_modChan_self]
    exact free

theorem supervised_notice {s : State} (law : Supervised s) (ch : Chan) : Supervised (s.notice ch) :=
  notice_keeps (supervised_decision ch) law

theorem supervised_noticeOf {s : State} (law : Supervised s) (b : Option Binding) : Supervised (s.noticeOf b) :=
  noticeOf_keeps supervised_decision law b

/-! ### The Command Unit and the host table -/

theorem sameStanding_ht (s : State) (x : HostTable) : SameStanding s { s with ht := x } :=
  sameStanding_of_same rfl rfl rfl rfl rfl

/-- R45: the law of work may begin to wait. -/
theorem Fits.quieter {x : Standing} {profiles : Vector (Option Profile) 8} {quiet quiet' : Bool} (h : Fits x profiles quiet)
    (implied : quiet' = true → quiet = true) : Fits x profiles quiet' :=
  ⟨h.bound, h.installed, h.retry, h.lost, h.urgentOnce, h.urgent, h.membersOnce, h.members, h.fresh, h.single,
    fun q => h.work (implied q)⟩

/-- The Command Unit replaced, with a SOFT_RESET still in progress if one was. -/
theorem supervised_cu {s : State} (law : Supervised s) {c : CommandUnit}
    (kept : c.softResetting = false → s.cu.softResetting = false) : Supervised { s with cu := c } := by
  refine ⟨law.plan, fun p => ?_⟩
  have same : standing { s with cu := c } p = standing s p :=
    standing_eq rfl fun ch => by rw [State.chan_with_cu]; rfl
  rw [same]
  exact (law.ports p).quieter fun quiet => by simpa using kept (by simpa using quiet)

/-! ### The reset of dynamic state -/

/-- R26, R91: the standing of a port after a reset. -/
def idleStanding : Standing := ⟨⟨.unbound, none, false, false⟩, fun _ => ⟨0, [], none⟩⟩

theorem fits_idle (profiles : Vector (Option Profile) 8) (quiet : Bool) : Fits idleStanding profiles quiet where
  bound := rfl
  installed := nofun
  retry := nofun
  lost := nofun
  urgentOnce := fun _ => Nat.zero_le 1
  urgent := fun _ there => absurd there (Nat.lt_irrefl 0)
  membersOnce := fun _ => Nat.zero_le 1
  members := fun _ _ there => absurd there List.not_mem_nil
  fresh := fun _ j there => absurd there.symm (Option.some_ne_none j)
  single := fun _ j there => absurd there.symm (Option.some_ne_none j)
  work := fun _ k state => by cases k <;> exact absurd state nofun

theorem standing_dynamicReset (s : State) (p : PortId) : standing s.dynamicReset p = idleStanding := by
  refine standing_eq ?_ fun ch => ?_
  · simp [State.dynamicReset, PortTable.softReset, State.port, recordView, PortRec.reset, idleStanding]
  · cases ch <;> rfl

/-- R190 (b): the reset of dynamic state, whatever the Command Unit holds then. -/
theorem supervised_dynamicReset {s : State} (law : Supervised s) (c : CommandUnit) :
    Supervised { s.dynamicReset with cu := c } := by
  refine ⟨law.plan, fun p => ?_⟩
  have same : standing { s.dynamicReset with cu := c } p = standing s.dynamicReset p :=
    standing_eq rfl fun ch => by rw [State.chan_with_cu]; rfl
  rw [same, standing_dynamicReset]
  exact fits_idle _ _

/-! ### Ends of drains -/

/-- R184: the Command Unit is told that a drain has ended. -/
theorem supervised_drainReport {s : State} (law : Supervised s) (ch : Chan) : Supervised (s.drainReport ch) := by
  unfold State.drainReport
  split
  · exact law
  · next t timed =>
    have code : (t.ended ch).code = t.code := by cases ch <;> rfl
    dsimp only
    split
    · exact supervised_cu law fun quiet => by simpa [CommandUnit.softResetting, timed, code] using quiet
    · split
      · exact supervised_notice (supervised_notice (supervised_dynamicReset law _) .ch0) .ch1
      · next other => exact supervised_cu law fun _ => by simpa [CommandUnit.softResetting, timed, code] using other

theorem supervised_disableDrainEnd {s : State} (law : Supervised s) (ch : Chan) : Supervised (s.disableDrainEnd ch) :=
  supervised_drainReport (s := s.modChan ch fun c =>
    { c with state := .off, drain := .none, sched := c.sched.disable })
    ((sameStanding_modChan rfl rfl rfl).supervised law) ch

/-- R118 (a) to (c): the end of an abort drain empties the urgent queue. -/
theorem supervised_abortDrainEnd {s : State} (law : Supervised s) (ch : Chan) : Supervised (s.abortDrainEnd ch) := by
  have placed := (sameStanding_ht s
    { s.ht with completions := s.ht.completions ++ (s.chan ch).queuedAborted }).supervised law
  exact supervised_urgent placed List.nodup_nil (fun _ there => absurd there List.not_mem_nil) rfl rfl

/-- R100, R116: the end of a disable drain, or the decision that the end of a unit brings. -/
theorem supervised_afterUnit {s : State} (law : Supervised s) (ch : Chan) : Supervised (s.afterUnit ch) := by
  unfold State.afterUnit
  split
  · exact law
  · split
    · exact supervised_disableDrainEnd law ch
    · exact supervised_notice law ch

/-! ### The two events of a frame -/

theorem supervised_frameEnd {s : State} (law : Supervised s) (ch : Chan) (f : FlyingFrame) (turnaround : Bool) (data : Word) :
    Supervised (s.frameEnd ch f turnaround data) := by
  have done : SameStanding s (s.modChan ch fun c => c.frameDone f (f.frame.result turnaround data)) :=
    sameStanding_modChan rfl rfl rfl
  have law' := done.supervised law
  unfold State.frameEnd
  dsimp only
  split
  · exact supervised_notice (supervised_drainReport (supervised_abortDrainEnd (supervised_abortFrameEnd law' ch _) ch) ch) ch
  · exact supervised_afterUnit (supervised_unitFrameEnd law' ch _) ch

theorem supervised_takeFrameEnd {s : State} (law : Supervised s) (ch : Chan) (turnaround : Bool) (data : Word) :
    Supervised (s.takeFrameEnd ch turnaround data) := by
  unfold State.takeFrameEnd
  split
  · split
    · exact supervised_frameEnd law ch _ turnaround data
    · exact law
  · exact law

/-- R110: a low line cuts the unit of the channel short. -/
theorem supervised_lineFault {s : State} (law : Supervised s) (ch : Chan) : Supervised (s.lineFault ch) := by
  have halted : SameStanding s (s.modChan ch fun c =>
      { c with frame := none, state := if c.drain = .disable then c.state else .halted }) :=
    sameStanding_modChan rfl rfl rfl
  have cut := supervised_cutUnit (halted.supervised law) ch (o := .busFault) (.inl rfl) .busFault
  unfold State.lineFault
  dsimp only
  generalize State.cutUnit _ ch .busFault .busFault = u at cut
  have posted : SameStanding u { u.post (.channelFault ch) with ev := { (u.post (.channelFault ch)).ev with chf := true } } :=
    sameStanding_of_same rfl rfl rfl rfl rfl
  have law' := posted.supervised cut
  split
  · exact supervised_disableDrainEnd law' ch
  · exact law'

/-- R64: a stale job withdraws the frame that waited. -/
theorem supervised_withdrawStale {s : State} (law : Supervised s) (ch : Chan) : Supervised (s.withdrawStale ch) := by
  have withdrawn : SameStanding s (s.modChan ch fun c =>
      { c with frame := none, state := if c.state = .busy then .idle else c.state }) := sameStanding_modChan rfl rfl rfl
  exact supervised_afterUnit (supervised_cutUnit (withdrawn.supervised law) ch (o := .aborted) (.inr rfl) .aborted) ch

theorem supervised_takeIdleLineCheck {s : State} (law : Supervised s) (ch : Chan) (level : Bool) :
    Supervised (s.takeIdleLineCheck ch level) := by
  have noted : SameStanding s (s.modChan ch fun c => { c with mdioHigh := level }) := sameStanding_modChan rfl rfl rfl
  have law' := noted.supervised law
  unfold State.takeIdleLineCheck
  split
  · exact law
  · next f waiting =>
    split
    · exact law
    · dsimp only
      split
      · exact supervised_lineFault law' ch
      · split
        · exact supervised_withdrawStale law' ch
        · exact SameStanding.supervised (sameStanding_modChan (f := fun c =>
            { c with frame := some { f with rate := some c.divider } }) rfl rfl rfl) law'

end Sys2Proof.Laws
end

section
/-! PROOFS. Timers and ticks leave the ports supervised (R58, R62, R72, R80, R177). -/
namespace Sys2Proof.Laws

open Sys2Proof.Machine Sys2Proof.Safety

/-! ### The timers of a port -/

/-- R58, R62: the timer of a kind of work cleared. -/
def RecordView.untimed (v : RecordView) : ProbeKind → RecordView
  | .probe => { v with retry := false }
  | .presence => { v with lost := false }

/-- R58, R62: a port's standing after a timer of it is due: it waits on the probe queue of its channel. -/
def Standing.due (x : Standing) (k : ProbeKind) (home : Chan) : Standing where
  record := x.record.untimed k
  bus ch :=
    { urgent := (x.bus ch).urgent
      members := if ch = home ∧ (x.bus ch).members = [] then [k] else (x.bus ch).members
      job := (x.bus ch).job.map Job.stopped }

theorem busView_joining_self (c : Channel) (ch home : Chan) (p : PortId) (k : ProbeKind) :
    busView (joining c ch home p k) p =
      ⟨(busView c p).urgent, if ch = home ∧ (busView c p).members = [] then [k] else (busView c p).members,
        (busView c p).job.map Job.stopped⟩ := by
  have queued : (busView (joining c ch home p k) p) =
      { busView { c with sched := if ch = home then withProbe c.sched p k else c.sched } p with
        job := (busView c p).job.map Job.stopped } := by
    simp only [busView, joining, jobOf_staled_self]
  rw [queued]
  by_cases here : ch = home
  · rw [if_pos here]
    by_cases none : (busView c p).members = []
    · rw [if_pos ⟨here, none⟩, busView_withProbe_self none]
    · have there : p ∈ c.sched.probes.map Prod.fst := by
        obtain ⟨l, listed⟩ := List.exists_mem_of_ne_nil _ none
        exact List.mem_map.mpr ⟨(p, l), mem_members.mp listed, rfl⟩
      rw [if_neg fun both => none both.2, withProbe, if_pos there]
  · rw [if_neg here, if_neg fun both => here both.1]

theorem busView_joining_of_ne (c : Channel) (ch home : Chan) {p q : PortId} (other : q ≠ p) (k : ProbeKind) :
    busView (joining c ch home p k) q = busView c q := by
  have queued : busView (joining c ch home p k) q =
      busView { c with sched := if ch = home then withProbe c.sched p k else c.sched } q := by
    simp only [busView, joining, jobOf_staled_of_ne _ other]
  rw [queued]
  split
  · exact busView_withProbe_of_ne c other k
  · rfl

theorem Fits.due {x : Standing} {profiles : Vector (Option Profile) 8} {quiet : Bool} (h : Fits x profiles quiet)
    {k : ProbeKind} {ch : Chan} (timer : x.record.timer k = true) (home : x.record.home = some ch) :
    Fits (Standing.due x k ch) profiles quiet := by
  have state : x.record.state = memberState k := by
    cases k
    · exact h.retry timer
    · exact h.lost timer
  have sameState : (Standing.due x k ch).record.state = x.record.state := by cases k <;> rfl
  have sameBinding : (Standing.due x k ch).record.binding = x.record.binding := by cases k <;> rfl
  have sameHome : (Standing.due x k ch).record.home = x.record.home := congrArg (Option.map Binding.channel) sameBinding
  refine ⟨by rw [sameState, sameBinding]; exact h.bound, by rw [sameBinding]; exact h.installed, fun on => ?_, fun on => ?_,
    h.urgentOnce, by rw [sameState, sameHome]; exact h.urgent, fun ch' => ?_, fun ch' l there => ?_,
    fun ch' j there fresh => by simp [stale_of_map there] at fresh,
    fun ch' j there kind => ?_, fun q l there => ?_⟩
  · rw [sameState]
    cases k
    · exact absurd on nofun
    · exact h.retry on
  · rw [sameState]
    cases k
    · exact h.lost on
    · exact absurd on nofun
  · dsimp only [Standing.due]
    split
    · exact Nat.le_refl 1
    · exact h.membersOnce ch'
  · rw [sameState, sameHome]
    dsimp only [Standing.due] at there
    split at there
    · next both =>
      obtain rfl := List.mem_singleton.mp there
      exact ⟨state, both.1 ▸ home⟩
    · exact h.members ch' l there
  · obtain ⟨y, before, rfl⟩ := Option.map_eq_some_iff.mp there
    exact h.single ch' y before kind
  · rw [sameState, state] at there
    obtain rfl := memberState_injective there
    have work := h.work q k state
    rw [timer, bitN_true] at work
    have empty : ∀ ch', (x.bus ch').members = [] := fun ch' => by
      refine List.eq_nil_iff_forall_not_mem.mpr fun l listed => ?_
      obtain rfl := memberState_injective ((h.members ch' l listed).1.symm.trans state)
      have loaded : 1 ≤ (x.bus ch').load l := by
        rw [BusView.load, decide_eq_true listed]
        exact Nat.le_add_right 1 _
      cases ch' <;> omega
    have loads : ∀ ch', ((Standing.due x k ch).bus ch').load k = bitN (decide (ch' = ch)) := fun ch' => by
      rw [BusView.load, show ((Standing.due x k ch).bus ch').flies k.unit = false from flies_stopped ..]
      dsimp only [Standing.due]
      by_cases here : ch' = ch <;> simp [here, empty, bitN]
    rw [loads, loads]
    cases ch <;> cases k <;> rfl

/-- R58, R62: the port of a due timer stands on the probe queue of its channel. -/
theorem supervised_queued {s : State} (law : Supervised s) {p : PortId} {b : Binding} {k : ProbeKind} {r : PortRec}
    (record : recordView r = (recordView (s.port p)).untimed k) (bound : (s.port p).binding = some b)
    (timer : (recordView (s.port p)).timer k = true) :
    Supervised { s with
      pt := { s.pt with ports := s.pt.ports.set p r }
      ch0 := joining s.ch0 .ch0 b.channel p k
      ch1 := joining s.ch1 .ch1 b.channel p k } := by
  generalize queued : State.mk _ _ _ _ _ _ _ _ _ _ _ _ _ = t
  have port : ∀ q, t.port q = if q = p then r else s.port q := fun q => by
    rw [← queued]
    exact State.port_setPort ..
  have chan : ∀ ch, t.chan ch = joining (s.chan ch) ch b.channel p k := fun ch => by
    rw [← queued]
    cases ch <;> rfl
  have touches : Touches p s t := by
    refine ⟨by rw [← queued], by rw [← queued], fun q other => standing_eq ?_ fun ch => ?_⟩
    · rw [port, if_neg other]
      rfl
    · rw [chan, busView_joining_of_ne _ _ _ other]
      rfl
  refine touches.supervised law ?_
  have own : standing t p = Standing.due (standing s p) k b.channel := by
    refine standing_eq ?_ fun ch => ?_
    · rw [port, if_pos rfl]
      exact record
    · rw [chan]
      exact busView_joining_self ..
  rw [own]
  exact (law.ports p).due timer (by
    show (recordView (s.port p)).binding.map Binding.channel = some b.channel
    rw [show (recordView (s.port p)).binding = some b from bound]
    rfl)

theorem binding_of_timer {s : State} (law : Supervised s) {p : PortId} {k : ProbeKind}
    (timer : (recordView (s.port p)).timer k = true) : ∃ b, (s.port p).binding = some b := by
  have fits := law.ports p
  have state : (s.port p).state = memberState k := by
    cases k
    · exact fits.retry timer
    · exact fits.lost timer
  refine Option.isSome_iff_exists.mp (fits.bound.trans (decide_eq_true ?_))
  show (s.port p).state ≠ .unbound
  rw [state]
  cases k <;> decide

theorem supervised_probeRetryExpiry {s : State} (law : Supervised s) (p : PortId) : Supervised (s.probeRetryExpiry p) := by
  by_cases due : (s.port p).probeRetry = some 0
  · have timer : (recordView (s.port p)).timer .probe = true := congrArg Option.isSome due
    obtain ⟨b, bound⟩ := binding_of_timer law timer
    rw [probeRetryExpiry_of_due bound due]
    exact supervised_notice (supervised_queued (k := .probe) law rfl bound timer) b.channel
  · rw [State.probeRetryExpiry, if_neg (by simpa [timerDue] using due)]
    exact law

theorem supervised_lostCheckExpiry {s : State} (law : Supervised s) (p : PortId) : Supervised (s.lostCheckExpiry p) := by
  by_cases due : (s.port p).lostCheck = some 0
  · have timer : (recordView (s.port p)).timer .presence = true := congrArg Option.isSome due
    obtain ⟨b, bound⟩ := binding_of_timer law timer
    rw [lostCheckExpiry_of_due bound due]
    exact supervised_notice (supervised_queued (k := .presence) law rfl bound timer) b.channel
  · rw [State.lostCheckExpiry, if_neg (by simpa [timerDue] using due)]
    exact law

/-! ### The pass-interval timer -/

theorem supervised_passIntervalExpiry {s : State} (law : Supervised s) (ch : Chan) : Supervised (s.passIntervalExpiry ch) := by
  unfold State.passIntervalExpiry
  dsimp only
  split
  · split
    · exact SameStanding.supervised (sameStanding_modSched (f := fun c =>
        { c with pendingExpiry := true, passTimer := .expired }) rfl rfl) law
    · split
      · exact (sameStanding_modSched (f := Scheduler.startTimer) rfl rfl).supervised law
      · exact supervised_notice ((sameStanding_modSched (f := Scheduler.startPass) rfl rfl).supervised law) ch
  · exact law

/-! ### The tick -/

/-- R177: a tick counts the timers of a port and starts or stops none. -/
theorem recordView_tick (r : PortRec) : recordView r.tick = recordView r := by
  simp [recordView, PortRec.tick, tickTimer]

theorem sameStanding_att (s : State) (x : Attention) : SameStanding s { s with att := x } :=
  sameStanding_of_same rfl rfl rfl rfl rfl

theorem sameStanding_tickTimers (s : State) : SameStanding s s.tickTimers := by
  refine ⟨rfl, rfl, fun q => standing_eq ?_ fun ch => by cases ch <;> rfl⟩
  rw [show s.tickTimers.port q = (s.port q).tick by simp [State.tickTimers, State.port]]
  exact recordView_tick _

/-- R80: the ports of the lines newly active join an urgent queue. -/
theorem supervised_sample {s : State} (law : Supervised s) (ch : Chan) (newly : BitVec 4) : Supervised (s.sample ch newly) := by
  rw [sample_eq]
  have added := (law.urgentFits ch).added (ports := linePorts s ch newly) fun p there => activeOn_of_linePorts there
  exact supervised_urgent law added.1 added.2 rfl rfl

theorem supervised_noticeIfGrown {s : State} (law : Supervised s) (before : State) (ch : Chan) :
    Supervised (s.noticeIfGrown before ch) := by
  unfold State.noticeIfGrown
  split
  · exact supervised_notice law ch
  · exact law

theorem supervised_tick {s : State} (law : Supervised s) (atn : BitVec 4) : Supervised (s.tick atn) := by
  have sampled := supervised_sample (supervised_sample ((sameStanding_tickTimers s).supervised law) .ch0
    (~~~atn &&& ~~~s.tickTimers.att.levels)) .ch1 (~~~atn &&& ~~~s.tickTimers.att.levels)
  unfold State.tick State.sampleAttention
  dsimp only
  refine supervised_noticeIfGrown (supervised_noticeIfGrown ?_ _ .ch0) _ .ch1
  exact (sameStanding_att _ _).supervised sampled

end Sys2Proof.Laws
end

section
/-! PROOFS. Commands and writes leave the ports supervised (`rules_supervised`), and with them O58. -/
namespace Sys2Proof.Laws

open Sys2Proof.Machine Sys2Proof.Safety

/-! ### Profiles -/

/-- R42, R38: a staging record that passes its checks has a plan entry. -/
theorem plan_install {g : Staging} (passes : g.check = none) : g.install.plan ≠ [] := by
  obtain ⟨i, r, present⟩ : checkPasses g 10 :=
    (checkOf_eq_none g (by decide) (by decide)).mp ((check_eq_none g).mp passes 10 (by decide) (by decide))
  have there : r.loc ∈ planLocations g.recipe := (mem_planLocations g.recipe).mpr ⟨i, by rw [locOf, present]; rfl⟩
  exact fun empty => absurd there (by rw [List.map_eq_nil_iff.mp empty]; exact List.not_mem_nil)

/-- R43: a profile that no bound port names is installed. -/
theorem supervised_installed {s : State} (law : Supervised s) {n : Fin 8} {f : Profile} (unused : s.pt.profileInUse n = false)
    (plan : f.plan ≠ []) : Supervised { s with ps := { s.ps with profiles := s.ps.profiles.set n (some f) } } := by
  have away : ∀ p : PortId, ∀ b, (s.port p).binding = some b →
      (s.ps.profiles.set n (some f))[b.profile] = s.ps.profiles[b.profile] := by
    intro p b binding
    have bound : (s.port p).bound = true := ((law.ports p).bound.symm.trans (congrArg Option.isSome binding))
    have other : (n : Nat) ≠ b.profile := by
      intro same
      obtain rfl := Fin.ext same
      exact absurd ((inUse_of_bound bound binding).symm.trans unused) (by decide)
    exact Vector.getElem_set_ne _ _ other
  refine ⟨fun m g there => ?_, fun p => ?_⟩
  · by_cases same : (n : Nat) = m
    · obtain rfl := Fin.ext same
      obtain rfl : f = g := by simpa using there
      exact plan
    · refine law.plan m g ?_
      have kept : (s.ps.profiles.set n (some f))[m] = s.ps.profiles[m] := Vector.getElem_set_ne _ _ same
      rwa [← kept]
  · have fits := law.ports p
    have same : standing { s with ps := { s.ps with profiles := s.ps.profiles.set n (some f) } } p = standing s p :=
      standing_eq rfl fun ch => by rw [State.chan_with_ps]; rfl
    rw [same]
    refine ⟨fits.bound, fun b binding => ?_, fits.retry, fits.lost, fits.urgentOnce, fits.urgent, fits.membersOnce,
      fits.members, fun ch j there fresh => ?_, fits.single, fits.work⟩
    · rw [away p b binding]
      exact fits.installed b binding
    · obtain ⟨binding, home, profile, state⟩ := fits.fresh ch j there fresh
      exact ⟨binding, home, (away p _ binding).trans profile, state⟩

theorem supervised_takeProfileLoad {s : State} (law : Supervised s) : Supervised (takeProfileLoad s).1 := by
  unfold takeProfileLoad
  split
  · exact law
  · split
    · exact law
    · next unused =>
      split
      · exact law
      · next passes => exact supervised_installed law (by simpa using unused) (plan_install passes)

/-! ### The commands of ports -/

theorem supervised_takeBind {s : State} (law : Supervised s) : Supervised (takeBind s).1 := by
  unfold takeBind
  split
  · exact law
  · next p b _ =>
    split
    · exact law
    · split
      · exact law
      · next installed =>
        split
        · exact law
        · refine supervised_notice (supervised_transition law p (some .host) rfl fun b' there => ?_) b.channel
          obtain rfl : b = b' := Option.some.inj there
          exact Option.isSome_iff_ne_none.mpr fun none => installed (Option.isNone_iff_eq_none.mpr none)

/-- R47: a transition from one bound state to another. -/
theorem supervised_moved {s : State} (law : Supervised s) {p : PortId} {new : PortState} (why : Option Reason)
    {eff : PortRec → PortRec} (binding : ∀ r, (eff r).binding = r.binding) (bound : (s.port p).state ≠ .unbound)
    (supervisedNow : new ≠ .unbound) : Supervised (s.transition p new why eff) := by
  have fits := law.ports p
  refine supervised_transition law p why ?_ ?_
  · rw [binding]
    exact (fits.bound.trans (decide_eq_true bound)).trans (decide_eq_true supervisedNow).symm
  · rw [binding]
    exact fits.installed

theorem supervised_reprobe {s : State} (law : Supervised s) {p : PortId} (why : Reason) (bound : (s.port p).state ≠ .unbound) :
    Supervised (s.reprobe p why) :=
  supervised_noticeOf (supervised_moved law (some why) (eff := fun r => { r with attemptCount := 0 }) (fun _ => rfl) bound
    (by decide)) _

/-! ### POST -/

theorem supervised_offer {s : State} (law : Supervised s) (t : HostTxn) (more : Bool) : Supervised (s.offer t more).1 := by
  unfold State.offer
  dsimp only
  split
  · exact law
  · split
    · exact law
    · split
      · exact law
      · have placed : SameStanding s (s.modChan t.channel fun c => c.place t more) := sameStanding_modChan rfl rfl rfl
        exact supervised_notice ((placed.trans (sameStanding_ht _ _)).supervised law) t.channel

theorem supervised_takePost {s : State} (law : Supervised s) : Supervised (takePost s).1 := by
  unfold takePost
  split
  · unfold State.postRawRead
    split
    · exact law
    · exact supervised_offer law ..
  · unfold State.postRawWrite
    split
    · exact law
    · exact supervised_offer law ..
  · unfold State.postItemRead
    split
    · split
      · exact law
      · split
        · exact law
        · exact supervised_offer law ..
    · exact law
  · exact law

/-! ### The commands of channels -/

theorem supervised_startTimed {s : State} (law : Supervised s) (code : BitVec 8) (wait0 wait1 : Bool)
    (idle : code ≠ 20#8 → s.cu.softResetting = false) : Supervised (s.startTimed code wait0 wait1) :=
  supervised_cu law fun quiet => idle (by simpa [CommandUnit.softResetting] using quiet)

theorem supervised_enableOn {s : State} (law : Supervised s) (ch : Chan) : Supervised (s.enableOn ch).1 := by
  unfold State.enableOn
  split
  · exact supervised_notice ((sameStanding_modChan (f := Channel.turnOn) rfl rfl rfl).supervised law) ch
  · exact law

theorem softResetting_of_idle {s : State} (timed : s.cu.timed = none) : s.cu.softResetting = false := by
  simp only [CommandUnit.softResetting, timed]

theorem supervised_enableOff {s : State} (law : Supervised s) (timed : s.cu.timed = none) (ch : Chan) :
    Supervised (s.enableOff ch).1 := by
  have off := (sameStanding_modChan (s := s) (ch := ch) (f := Channel.turnOff) rfl rfl rfl).supervised law
  have drains := (sameStanding_modChan (s := s) (ch := ch) (f := fun c =>
    { c with enabled := false, state := .draining, drain := .disable }) rfl rfl rfl).supervised law
  unfold State.enableOff
  dsimp only
  split
  · exact law
  · exact off
  · exact law
  · split
    · exact off
    · exact supervised_startTimed drains _ _ _ fun _ => by
        rw [State.modChan_cu]
        exact softResetting_of_idle timed

/-- R117: an abort begins. -/
theorem supervised_beginAbort {s : State} (law : Supervised s) (ch : Chan) : Supervised (s.beginAbort ch).1 := by
  have cut : ∀ {u : State}, Supervised u → Supervised ((u.cutUnit ch .aborted .aborted).abortDrainEnd ch) := fun law =>
    supervised_abortDrainEnd (supervised_cutUnit law ch (o := .aborted) (.inr rfl) .aborted) ch
  unfold State.beginAbort
  split
  · split
    · exact SameStanding.supervised (sameStanding_modChan (f := fun c =>
        { c with state := .draining, drain := .abort }) rfl rfl rfl) law
    · exact cut (SameStanding.supervised (sameStanding_modChan (f := fun c => { c with frame := none }) rfl rfl rfl) law)
  · exact cut law

theorem supervised_abortChannel {s : State} (law : Supervised s) (timed : s.cu.timed = none) (ch : Chan) :
    Supervised (s.abortChannel ch).1 := by
  have begun := supervised_beginAbort law ch
  unfold State.abortChannel
  dsimp only
  split
  · exact supervised_notice begun ch
  · exact supervised_startTimed begun _ _ _ fun _ => by
      rw [(ongoing_beginAbort s ch).cu]
      exact softResetting_of_idle timed

theorem supervised_restartChannel {s : State} (law : Supervised s) (level : Bool) (ch : Chan) :
    Supervised (s.restartChannel level ch).1 := by
  have noted : SameStanding s (s.modChan ch fun c => { c with mdioHigh := level }) := sameStanding_modChan rfl rfl rfl
  unfold State.restartChannel
  split
  · exact law
  · dsimp only
    split
    · have restarted := sameStanding_modChan (s := s.modChan ch fun c => { c with mdioHigh := level }) (ch := ch)
        (f := fun c => { c with state := .idle, established := 0 }) rfl rfl rfl
      exact supervised_notice ((noted.trans restarted).supervised law) ch
    · exact noted.supervised law

theorem supervised_takeSoftReset {s : State} (law : Supervised s) : Supervised (takeSoftReset s).1 := by
  have started := supervised_startTimed law 20#8 true true fun other => absurd rfl other
  have begun := supervised_beginAbort (supervised_beginAbort started .ch0) .ch1
  unfold takeSoftReset
  dsimp only
  split
  · exact supervised_notice (supervised_notice (supervised_dynamicReset begun _) .ch0) .ch1
  · exact supervised_startTimed begun _ _ _ fun other => absurd rfl other

/-! ### The rows -/

/-- What the rows do to the supervision of the ports. -/
theorem rules_supervised : Rules Supervised where
  apart := fun away law => away.sameStanding.supervised law
  bind := fun _ => supervised_takeBind
  unbind := fun {s} _ law => by
    refine onNamedPort_keeps law fun p => ?_
    split
    · exact law
    · exact supervised_transition law p (some .host) (eff := PortRec.unbind) rfl nofun
  suspend := fun {s} _ law => by
    refine onNamedPort_keeps law fun p => ?_
    split
    · exact law
    · next supervisedNow =>
      refine supervised_moved law (some .host) (eff := id) (fun _ => rfl) (fun unbound => supervisedNow ?_) (by decide)
      rw [unbound]
      rfl
  resume := fun {s} _ law => by
    refine onNamedPort_keeps law fun p => ?_
    split
    · exact law
    · next suspended => exact supervised_reprobe law .resumed fun unbound => suspended (by rw [unbound]; decide)
  retry := fun {s} _ law => by
    refine onNamedPort_keeps law fun p => ?_
    split
    · exact law
    · next failed => exact supervised_reprobe law .retry fun unbound => failed (by rw [unbound]; decide)
  scanEntry := fun {s} _ law => by
    unfold takeSetScanEntry
    split
    · next ch i p _ _ _ =>
      exact SameStanding.supervised (sameStanding_modSched (f := fun c => { c with scanList := c.scanList.set i p }) rfl rfl) law
    · exact law
  scanLength := fun {s} _ law => by
    unfold takeSetScanLength
    split
    · exact law
    · split
      · exact SameStanding.supervised (sameStanding_modSched (f := fun c => { c with scanLength := s.argIndex }) rfl rfl) law
      · exact law
  profileLoad := fun _ => supervised_takeProfileLoad
  post := fun _ => supervised_takePost
  takeCompletion := fun {s} _ law => by
    unfold takeTakeCompletion
    split
    · exact law
    · exact (sameStanding_ht ..).supervised law
  enable := fun timed law => by
    refine onNamedChannel_keeps law fun ch => ?_
    split
    · exact supervised_enableOn law ch
    · exact supervised_enableOff law timed ch
  abort := fun timed law => onNamedChannel_keeps law (supervised_abortChannel law timed)
  restart := fun level _ law => onNamedChannel_keeps law (supervised_restartChannel law level)
  softReset := fun _ => supervised_takeSoftReset
  divider := fun {s} ch v law => by
    unfold State.takeDivider
    split
    · exact SameStanding.supervised (sameStanding_modChan (f := fun c => { c with divider := v.toNat }) rfl rfl rfl) law
    · exact law
  passInterval := fun {s} ch v law => by
    unfold State.takePassInterval
    split
    · exact law
    · exact SameStanding.supervised (sameStanding_modSched (f := fun c => { c with passInterval := v.toNat }) rfl rfl) law
  hostWeight := fun {s} ch v law => by
    unfold State.takeHostWeight
    split
    · exact SameStanding.supervised (sameStanding_modChan
        (f := fun c => { c with hostWeight := v.toNat, hostTurn := min c.hostTurn v.toNat }) rfl rfl rfl) law
    · exact law
  channelStatus := fun {s} ch v law => by
    unfold State.takeChannelStatus
    split
    · exact SameStanding.supervised (sameStanding_modSched (f := fun c => { c with overrun := false }) rfl rfl) law
    · exact law
  tick := fun atn law => supervised_tick law atn
  probeRetryExpiry := fun p law => supervised_probeRetryExpiry law p
  lostCheckExpiry := fun p law => supervised_lostCheckExpiry law p
  passIntervalExpiry := fun ch law => supervised_passIntervalExpiry law ch
  idleLineCheck := fun ch level law => supervised_takeIdleLineCheck law ch level
  frameEnd := fun ch turnaround data law => supervised_takeFrameEnd law ch turnaround data
  powerOn := fun s low => supervised_of_lawful (lawful_powerOn s low)

/-- Settles O58: the laws of each block (`lawsKept_step`, O55, O57) and the supervision of the ports (`rules_supervised`). -/
theorem everyStepKeepsThePartLawful : Obligations.EveryStepKeepsThePartLawful := by
  intro s t law taken
  have kept := lawsKept_step taken
  have supervised := rules_supervised.step taken (supervised_of_lawful law)
  exact
    { ports := kept.records law.ports
      queue0 := supervised.queueLaw .ch0
      queue1 := supervised.queueLaw .ch1
      channels := everyStepKeepsTheChannelsLaw s t law.channels taken
      profiles := supervised.profileLaw
      staging := kept.staging law.staging
      job0 := supervised.jobLaw .ch0
      job1 := supervised.jobLaw .ch1
      work := supervised.workLaw
      credit := everyStepKeepsTheCreditLaw s t law.credit taken
      events := kept.events law.events
      engine := kept.engine law.engine }

end Sys2Proof.Laws
end
